-- ==== Sys2Proof/Word.lean ====
section
/-! DEFINITION. The words and the numbered things of the G240: bytes, module IDs, short addresses, and the index
ranges of its tables (chapter 0, Identities and addresses). -/

namespace Sys2Proof

/-- A byte of a frame, a block or a transaction. -/
abbrev Byte := BitVec 8

/-- The 64-bit factory identity of a field module. -/
abbrev ModuleId := BitVec 64

/-- A short address, 00h..FFh. -/
abbrev Address := BitVec 8

/-- A set of groups: bit g stands for group g (R189). -/
abbrev GroupSet := BitVec 16

/-- A set of segments: bit n stands for Sn (R189). -/
abbrev SegSet := BitVec 4

/-- A segment number, S0..S3. -/
abbrev SegNo := Fin 4

/-- A claim slot number, 0..7. -/
abbrev SlotNo := Fin 8

/-- An admission rule slot number, 0..15. -/
abbrev RuleNo := Fin 16

/-- A group number, 0..15. -/
abbrev GroupNo := Fin 16

/-- A record index, 0..255. -/
abbrev RecNo := Fin 256

/-- The level of a segment's data line for one bit time: idle when no station drives it, active when one does
(R146). -/
inductive Level where
  | idle
  | active
  deriving DecidableEq, Repr

/-- A vector given by its entries. -/
def tabulate {α : Type} (n : Nat) (f : Fin n → α) : Vector α n :=
  ⟨⟨List.ofFn f⟩, by simp⟩

@[simp] theorem tabulate_getElem {α : Type} (n : Nat) (f : Fin n → α) (i : Nat) (h : i < n) :
    (tabulate n f)[i] = f ⟨i, h⟩ := by
  simp [tabulate]

end Sys2Proof
end

