-- ==== Sys2Proof/Syntax.lean ====
section
/-! DEFINITION. The commands of the G240: one constructor for each row of spec/opcode_table.json, with the operands its
rule gives it. A row that the Table Engine performs by a grant takes its arguments from the queue it is granted from
(R56, R57, R58), so its operand is the segment alone, or nothing. -/

namespace Sys2Proof

/-- A command: one whole step of the part, as the table lists it. -/
inductive Instr where
  /-- RESET_PIN (R183, R191). -/
  | resetPin
  /-- POWER_UP (R191). -/
  | powerUp
  /-- RESET_RECOVERY_DONE (R191). -/
  | resetRecoveryDone
  /-- RESET (R183): `extra`, the input bytes after the code byte. -/
  | reset (extra : List Byte)
  /-- SUBMIT (R172): `input`, the whole input bytes after the code byte. -/
  | submit (input : List Byte)
  /-- FETCH_NEXT (R176): `clocked`, the number of whole bytes clocked after the code byte. -/
  | fetchNext (clocked : Nat)
  /-- FETCH_AGAIN (R177). -/
  | fetchAgain (clocked : Nat)
  /-- STATUS (R178). -/
  | status (clocked : Nat)
  /-- NOTIFY (R181). -/
  | notify (input : List Byte)
  /-- ACKNOWLEDGE (R180). -/
  | acknowledge (input : List Byte)
  /-- UNKNOWN_TRANSACTION (R168): `bytes`, every whole byte shifted in, the code byte first; none when SCS# rose before
  the code byte was complete. -/
  | unknownTransaction (bytes : List Byte)
  /-- BAD_COMMAND (R174). -/
  | badCommand
  /-- READ_RECORD (R19). -/
  | readRecord
  /-- FIND_ID (R20). -/
  | findId
  /-- FIND_ADDRESS (R21). -/
  | findAddress
  /-- BIND_STATIC (R22, R23). -/
  | bindStatic
  /-- ADD_DENY (R24). -/
  | addDeny
  /-- EDIT_RECORD (R25, R26). -/
  | editRecord
  /-- RETIRE_RECORD (R27, R28). -/
  | retireRecord
  /-- COLLECT_ATTENTION (R29). -/
  | collectAttention
  /-- RESERVE_ADDRESS (R46). -/
  | reserveAddress
  /-- FREE_RESERVATION (R47). -/
  | freeReservation
  /-- READ_ADDRESS (R49). -/
  | readAddress
  /-- READ_LIST (R50). -/
  | readList
  /-- SET_MODE_RUN (R60). -/
  | setModeRun
  /-- SET_MODE_HALT (R61). -/
  | setModeHalt
  /-- FLUSH_DYNAMIC (R62). -/
  | flushDynamic
  /-- FLUSH_STEP (R63, R64). -/
  | flushStep
  /-- CONFIGURE (R66, R67). -/
  | configure
  /-- READ_CONFIG (R68). -/
  | readConfig
  /-- WRITE_RULE (R74, R75). -/
  | writeRule
  /-- READ_RULE (R76). -/
  | readRule
  /-- WRITE_GROUP (R85). -/
  | writeGroup
  /-- READ_GROUP (R86). -/
  | readGroup
  /-- READ_CLAIM (R111). -/
  | readClaim
  /-- SEGMENT_CONTROL (R148 to R150). -/
  | segmentControl
  /-- READ_SEGMENT (R151). -/
  | readSegment
  /-- ANNOUNCE taken on segment n (R97). -/
  | announce (n : SegNo)
  /-- ACCEPT taken on segment n (R104). -/
  | accept (n : SegNo)
  /-- DECLINE taken on segment n (R107). -/
  | decline (n : SegNo)
  /-- HEARTBEAT taken on segment n (R125). -/
  | heartbeat (n : SegNo)
  /-- RELEASE taken on segment n (R129). -/
  | release (n : SegNo)
  /-- RESOLVE_ID taken on segment n (R138). -/
  | resolveId (n : SegNo)
  /-- RESOLVE_ADDRESS taken on segment n (R139). -/
  | resolveAddress (n : SegNo)
  /-- RESOLVE_GROUP taken on segment n (R140). -/
  | resolveGroup (n : SegNo)
  /-- FAULT_NOTICE taken from SCn (R165). -/
  | faultNotice (n : SegNo)
  /-- TRANSMIT_NOTICE: a SENT notice taken from SCn (R93). -/
  | transmitNotice (n : SegNo)
  /-- DROP_NOTICE: a DROPPED notice taken from SCn (R94). -/
  | dropNotice (n : SegNo)
  /-- MILLISECOND (R113). -/
  | millisecond
  /-- OFFER_WINDOW_RUN_OUT of slot k (R91). -/
  | offerWindowRunOut (k : SlotNo)
  /-- CLAIM_EXPIRY (R109). -/
  | claimExpiry
  /-- AGING_TICK (R114). -/
  | agingTick
  /-- HOLD_LIST_STEP (R117). -/
  | holdListStep
  /-- HOLD_ENTRY_EXPIRY (R37). -/
  | holdEntryExpiry
  /-- SWEEP_VISIT (R118, R119, R121). -/
  | sweepVisit
  /-- LEASE_RUN_OUT (R118). -/
  | leaseRunOut
  /-- STALE_WINDOW_RUN_OUT (R120). -/
  | staleWindowRunOut
  /-- FRAME_START on segment n (R152). -/
  | frameStart (n : SegNo)
  /-- START_GAP on segment n (R152). -/
  | startGap (n : SegNo)
  /-- FRAME_OVER_LENGTH on segment n (R152). -/
  | frameOverLength (n : SegNo)
  /-- FRAME_COMPLETE on segment n (R153): `line`, the coded bit times of the frame after its start bit, the end gap not
  among them. -/
  | frameComplete (n : SegNo) (line : List Level)
  /-- ATTEMPT_START on segment n (R158). -/
  | attemptStart (n : SegNo)
  /-- COLLISION on segment n (R159): `stillActive`, whether the line is still active when the attempt ends (R163). -/
  | collision (n : SegNo) (stillActive : Bool)
  /-- BACKOFF_EXPIRY on segment n (R158, R159). -/
  | backoffExpiry (n : SegNo)
  /-- TRANSMIT_COMPLETE on segment n (R160). -/
  | transmitComplete (n : SegNo)
  /-- LINE_STUCK on segment n (R163, R164). -/
  | lineStuck (n : SegNo)
  /-- DATA_LINE_ACTIVE_IN_GAP on segment n (R152, R163). -/
  | dataLineActiveInGap (n : SegNo)
  deriving DecidableEq, Repr

end Sys2Proof
end

