-- ==== Sys2Proof/Decode.lean ====
section
/-! DEFINITION. What words and bytes spell: the words of the opcode table, none of which spells a command (the table gives no
row any bits; spec/98_reader.md counts 67 rows unread and none with fixed bits or fields), and the bytes of an SPI
transaction, whose first is the transaction code (R168, R188). -/

namespace Sys2Proof

/-- The command that a word spells by the table's bits: none, since no row of the table gives bits. -/
def decodeTableWord (_nbits _w : Nat) : Option Instr := none

/-- The six transactions, FETCH in its two forms (R168). -/
inductive Transaction where
  | submit | fetchNext | fetchAgain | status | notify | acknowledge | reset
  deriving DecidableEq, Repr

/-- The transaction that a code byte names (R188). -/
def transactionNamed (code : Byte) : Option Transaction :=
  if code = 0x51 then some .submit
  else if code = 0x52 then some .fetchNext
  else if code = 0x53 then some .fetchAgain
  else if code = 0x54 then some .status
  else if code = 0x55 then some .notify
  else if code = 0x56 then some .acknowledge
  else if code = 0x5F then some .reset
  else none

/-- A transaction as a command, with the bytes after its code: FETCH and STATUS are judged by how many bytes are clocked,
the others by the input bytes themselves (R168). -/
def Transaction.command (t : Transaction) (input : List Byte) : Instr :=
  match t with
  | .submit => .submit input
  | .fetchNext => .fetchNext input.length
  | .fetchAgain => .fetchAgain input.length
  | .status => .status input.length
  | .notify => .notify input
  | .acknowledge => .acknowledge input
  | .reset => .reset input

/-- The command that the whole bytes shifted in between the fall and the rise of SCS# are: the first byte picks the
transaction, and a code that names none, or no whole code byte, is an unknown transaction (R168, R188). -/
def decodeTransaction (bytes : List Byte) : Instr :=
  match bytes with
  | [] => .unknownTransaction []
  | code :: input =>
    match transactionNamed code with
    | some t => t.command input
    | none => .unknownTransaction (code :: input)

end Sys2Proof
end

