-- ==== Sys2Proof/Config.lean ====
section
/-! DEFINITION. What is fixed for every G240: capacities, codes and the G240's own addresses, each with its rule; and
the free values, which the manual leaves open and which have no body. The ten host-written parameters of R66 are
state, not configuration, and stand in State. -/

namespace Sys2Proof.Config

/-- The G240's own address on every segment (chapter 0). -/
def ownAddress : Address := 0xF0

/-- The broadcast address (chapter 0). -/
def broadcast : Address := 0xFF

/-- The lowest assignable address (chapter 0). -/
def firstAddress : Address := 0x01

/-- The highest assignable address (chapter 0). -/
def lastAddress : Address := 0xEF

/-- Entries of a full hold list (R36). -/
def holdCapacity : Nat := 32

/-- Frames of a full receive queue (R155). -/
def rxCapacity : Nat := 2

/-- Messages of a full transmit queue (R157). -/
def txCapacity : Nat := 6

/-- Attempts made for a message before it is dropped (R159). -/
def maxAttempts : Nat := 4

/-- The most repeat announces a claim is served (R101). -/
def repeatLimit : Nat := 3

/-- The most declines a claim answers with a re-offer (R107). -/
def declineLimit : Nat := 2

/-- The most ticks owed (R115). -/
def owedLimit : Nat := 2

/-- The most bytes of a request payload (R172). -/
def maxPayload : Nat := 24

/-- The most bytes of a segment frame (R186). -/
def maxFrame : Nat := 40

/-- The most addresses one group reply carries (R141). -/
def maxGroupReply : Nat := 16

/-- The conflict count at which counting stops (R6). -/
def maxConflicts : BitVec 4 := 15

/-- FREE VALUE. R189 gives the flag byte of a class override as 00h for absent 'and any other value for present', so an
answer that carries a present override carries some non-zero byte that the manual does not name. The answer uses this
value where it is not 00h (log entry 4). -/
opaque overrideFlag : Byte → Byte

/-- FREE VALUE. R25 puts 'a new lease length of 0, or PIN and UNPIN together' into one check and R189 numbers the first
as field 6 and the second as field 3; which number answers a command that does both is not stated. True: 6
(log entry 3). -/
opaque editReportsLease : Bool

/-- FREE VALUE. R85 answers a group above 15, or an enabled value other than YES or NO, BAD_PARAMETER, and gives no order of
checks; which of the two field numbers answers a WRITE_GROUP with both is not stated. True: 1, the group (log entry 21). -/
opaque writeGroupReportsGroup : Bool

end Sys2Proof.Config
end

