-- ==== Sys2Proof/Machine/State.lean ====
section
/-! DEFINITION. Everything the manual says the G240 holds, as plain data, block by block, and its values after reset
(R18, R51, R71, R73, R83, R90, R113, R166, R170). -/

namespace Sys2Proof.Machine

/-! ### The Binding Table (chapter 1) -/

/-- How a record came to be (R2). -/
inductive Kind where
  | none | dynamic | static | denied
  deriving DecidableEq, Repr

/-- Where a binding stands (R2). -/
inductive RecState where
  | empty | pending | dormant | active | stale | retired
  deriving DecidableEq, Repr

/-- A reason why a record wants the host's notice (R14). -/
inductive Reason where
  | learned | returned | moved | stale | expired | released | conflict | deniedSeen
  deriving DecidableEq, Repr

/-- A binding record (R2). An absent field is `none`; the address of a RETIRED record is its former address. -/
structure Record where
  kind : Kind
  state : RecState
  id : Option ModuleId
  address : Option Address
  segment : Option SegNo
  cls : Option Byte
  groups : GroupSet
  lease : Option Byte
  ticks : Byte
  conflicts : BitVec 4
  attention : Byte
  generation : BitVec 16
  rule : Option RuleNo
  slot : Option SlotNo
  deriving DecidableEq, Repr

/-- The EMPTY record (R4, R8, R18). -/
def Record.empty : Record where
  kind := .none
  state := .empty
  id := none
  address := none
  segment := none
  cls := none
  groups := 0
  lease := none
  ticks := 0
  conflicts := 0
  attention := 0
  generation := 0
  rule := none
  slot := none

/-! ### The Address Pool (chapter 2) -/

/-- The address map entry of one address (R30, R31). -/
inductive Place where
  | free | held | reserved
  | offered (i : RecNo)
  | bound (i : RecNo)
  | invalid
  deriving DecidableEq, Repr

/-- An entry of the hold list (R36). -/
structure HoldEntry where
  address : Address
  former : Option ModuleId
  ticks : Byte
  deriving DecidableEq, Repr

/-- The Address Pool: the map, the free list and the hold list, head first. The reserved set is the addresses whose map
entry is RESERVED (R30). -/
structure Pool where
  map : Vector Place 256
  free : List Address
  hold : List HoldEntry
  deriving DecidableEq, Repr

/-- The assignable addresses, 01h..EFh, ascending. -/
def assignableAddresses : List Address := (List.range 239).map fun k => BitVec.ofNat 8 (k + 1)

/-- The pool after reset (R51): every assignable address FREE, in ascending order. -/
def Pool.reset : Pool where
  map := tabulate 256 fun a => if 1 ≤ a.val ∧ a.val ≤ 0xEF then .free else .invalid
  free := assignableAddresses
  hold := []

/-! ### Admission rules and groups (chapter 4) -/

/-- The decision of a rule or of the default policy: ADMIT or DENY. -/
inductive Decision where
  | permit | deny
  deriving DecidableEq, Repr

/-- An admission rule (R73). -/
structure Rule where
  valid : Bool
  action : Decision
  leadLength : Byte
  leadValue : ModuleId
  segments : SegSet
  clsOverride : Option Byte
  groups : GroupSet
  low : Address
  high : Address
  lease : Byte
  deriving DecidableEq, Repr

/-- The cleared rule (R73). -/
def Rule.cleared : Rule where
  valid := false
  action := .permit
  leadLength := 0
  leadValue := 0
  segments := 0
  clsOverride := none
  groups := 0
  low := 0x01
  high := 0xEF
  lease := 60

/-- A group record (R83). -/
structure Group where
  enabled : Bool
  mask : SegSet
  members : Nat
  deriving DecidableEq, Repr

/-- A group record after reset (R83). -/
def Group.reset : Group := ⟨false, 0xF, 0⟩

/-! ### Claim slots (chapter 5) -/

/-- The state of a busy claim slot (R90). -/
inductive ClaimPhase where
  | sending | offered
  deriving DecidableEq, Repr

/-- What a busy claim slot holds (R90). `window` is in milliseconds. -/
structure Claim where
  phase : ClaimPhase
  record : RecNo
  id : ModuleId
  segment : SegNo
  address : Address
  nonce : BitVec 16
  repeats : Nat
  declines : Nat
  window : Nat
  low : Address
  high : Address
  groups : GroupSet
  replyTo : Address
  deriving DecidableEq, Repr

/-! ### The Table Engine's own state (chapter 3) -/

/-- The mode (R59). -/
inductive Mode where
  | halted | running | flushing
  deriving DecidableEq, Repr

/-- A requester of the arbiter (R55). -/
inductive Requester where
  | host
  | seg (n : SegNo)
  | timer
  deriving DecidableEq, Repr

/-- The step a sweep performs next (R116). -/
inductive SweepStep where
  | holdList
  | visit (i : RecNo)
  deriving DecidableEq, Repr

/-- The Table Engine's mode, rotation, sweep and flush state, nonce counter and attention count (R71). -/
structure Engine where
  mode : Mode
  pointer : Requester
  sweeping : Bool
  sweepNext : SweepStep
  owed : Nat
  flushing : Bool
  flushNext : RecNo
  emptied : Nat
  nonce : BitVec 16
  attnCount : Nat
  deriving DecidableEq, Repr

/-- The Table Engine's own state after reset (R71). -/
def Engine.reset : Engine where
  mode := .halted
  pointer := .timer
  sweeping := false
  sweepNext := .holdList
  owed := 0
  flushing := false
  flushNext := 0
  emptied := 0
  nonce := 1
  attnCount := 0

/-- The ten parameters of CONFIGURE (R66); DEFAULT_RANGE is `rangeLow`..`rangeHigh`. -/
structure Params where
  refKhz : BitVec 16
  tickPeriod : Byte
  defaultLease : Byte
  staleWindow : Byte
  holdPeriod : Byte
  offerWindow : Byte
  retryHint : Byte
  defaultPolicy : Decision
  rangeLow : Address
  rangeHigh : Address
  defaultGroups : GroupSet
  deriving DecidableEq, Repr

/-- The defaults of R66. -/
def Params.reset : Params where
  refKhz := 25000
  tickPeriod := 10
  defaultLease := 60
  staleWindow := 10
  holdPeriod := 30
  offerWindow := 25
  retryHint := 50
  defaultPolicy := .permit
  rangeLow := 0x01
  rangeHigh := 0xEF
  defaultGroups := 0

/-- The per-segment policy (R69). `acceptMoves` is move policy ACCEPT. -/
structure Policy where
  learning : Bool
  acceptMoves : Bool
  visible : SegSet
  deriving DecidableEq, Repr

/-- The policy of a segment after reset (R69). -/
def Policy.reset : Policy := ⟨true, true, 0xF⟩

/-- The Aging Unit's two counters (R113). -/
structure Aging where
  divider : Nat
  tickCount : Nat
  deriving DecidableEq, Repr

/-- The Aging Unit after reset (R113). -/
def Aging.reset : Aging := ⟨0, 0⟩

/-! ### Segment messages (chapter 10) -/

/-- A reason of a REFUSE (R187). -/
inductive Refuse where
  | halted | busy | denied | notAdmitted | boundElsewhere | claimsFull | tableFull | noAddress | offerLimit | staleOffer
  deriving DecidableEq, Repr

/-- The query of a RESOLVE frame (R132). -/
inductive Question where
  | byId (target : ModuleId)
  | byAddress (target : Address)
  | byGroup (group : Byte) (startAfter : Address)
  deriving DecidableEq, Repr

/-- The result of a REPLY (R137). -/
inductive Result where
  | unknown
  | address (a : Address)
  | id (i : ModuleId)
  | group (addresses : List Address) (truncated : Bool)
  deriving DecidableEq, Repr

/-- A message that the G240 sends (R187). -/
inductive Message where
  | offer (id : ModuleId) (nonce : BitVec 16) (address : Address)
  | confirm (id : ModuleId) (address : Address)
  | refuse (id : ModuleId) (reason : Refuse) (hint : Byte)
  | revoke (id : ModuleId) (address : Address)
  | probe (id : ModuleId) (address : Address)
  | reply (requester : ModuleId) (question : Question) (result : Result)
  | reannounce
  deriving DecidableEq, Repr

/-- A message that a module sends to the G240 (R187). -/
inductive FieldMessage where
  | announce (id : ModuleId) (cls : Byte) (preferred : Address)
  | accept (id : ModuleId) (nonce : BitVec 16) (address : Address)
  | decline (id : ModuleId) (nonce : BitVec 16)
  | heartbeat (id : ModuleId)
  | release (id : ModuleId)
  | resolve (requester : ModuleId) (question : Question)
  deriving DecidableEq, Repr

/-! ### Segment Controllers (chapter 8) -/

/-- The state of a Segment Controller (R147). -/
inductive SegState where
  | disabled | listening | hushed | fault
  deriving DecidableEq, Repr

/-- The state of a receiver (R152). -/
inductive RxState where
  | off | gap | ready | receiving
  deriving DecidableEq, Repr

/-- The state of a transmitter (R158, R159); `backoff` holds its wait in bit times. -/
inductive TxState where
  | idle | sending
  | backoff (wait : Nat)
  deriving DecidableEq, Repr

/-- The line monitor (R163): stopped, running on a quiet line, or measuring an external active period. -/
inductive Monitor where
  | off | quiet | measuring
  deriving DecidableEq, Repr

/-- A bit-rate setting: 62.5, 125, 250 or 500 kbit/s (R146). -/
inductive BitRate where
  | k62 | k125 | k250 | k500
  deriving DecidableEq, Repr

/-- An entry of a receive queue (R155). -/
structure RxFrame where
  dest : Address
  source : Address
  message : FieldMessage
  deriving DecidableEq, Repr

/-- An entry of a transmit queue (R157); the nonce of an OFFER stands in its message. -/
structure TxEntry where
  dest : Address
  message : Message
  attempts : Nat
  deriving DecidableEq, Repr

/-- A transmit notice: SENT or DROPPED, with the OFFER's nonce (R161). -/
structure Notice where
  sent : Bool
  nonce : BitVec 16
  deriving DecidableEq, Repr

/-- A Segment Controller (R147, R166). -/
structure SegCtl where
  state : SegState
  receiver : RxState
  transmitter : TxState
  monitor : Monitor
  rx : List RxFrame
  tx : List TxEntry
  notices : List Notice
  faultNotice : Bool
  rxError : Bool
  overflow : Bool
  bitRate : BitRate
  lineOut : List Level
  deriving DecidableEq, Repr

/-- A Segment Controller after reset (R166). -/
def SegCtl.reset : SegCtl where
  state := .disabled
  receiver := .off
  transmitter := .idle
  monitor := .off
  rx := []
  tx := []
  notices := []
  faultNotice := false
  rxError := false
  overflow := false
  bitRate := .k125
  lineOut := []

/-! ### The Host Port (chapter 9) -/

/-- The status of a response (R175). -/
inductive Status where
  | ok | notFound | exists_ | addressInUse | addressInvalid | idInvalid | bucketFull | generationMismatch | wrongMode
  | wrongState | wrongKind | badParameter | badCommand
  deriving DecidableEq, Repr

/-- A request of the request queue (R170); its LENGTH is its payload's. -/
structure Request where
  tag : Byte
  command : Byte
  payload : List Byte
  taken : Bool
  deriving DecidableEq, Repr

/-- A response of the response queue or the repeat buffer (R170); its LENGTH is its payload's. -/
structure Response where
  tag : Byte
  command : Byte
  status : Status
  payload : List Byte
  deriving DecidableEq, Repr

/-- The Host Port (R170). `flags` has bit k for the k-th sticky flag of R188; `enables` has bits for RESPONSE_READY,
ATTENTION and FLAG. -/
structure Port where
  requests : List Request
  responses : List Response
  credits : Nat
  repeatBuf : Option Response
  flags : Byte
  enables : BitVec 3
  deriving DecidableEq, Repr

/-- The Host Port after reset (R170). -/
def Port.reset : Port where
  requests := []
  responses := []
  credits := 4
  repeatBuf := none
  flags := 0
  enables := 0

/-- Whether the part operates, or what holds it in reset (R168, R191). -/
inductive Phase where
  | operating | pinReset | powerUp | transactionReset
  deriving DecidableEq, Repr

/-! ### The machine -/

/-- The state of the part and, in `sdo` and `pending`, the model's own two fields: what SDO carried during the last
transaction, and the commands that wait. `due` holds the due expiries, oldest first, and `ranOut`, ascending, the slots
whose windows ran out in the millisecond completed last, among which R58 orders by slot. -/
structure State where
  phase : Phase
  engine : Engine
  config : Params
  policy : Vector Policy 4
  records : Vector Record 256
  pool : Pool
  rules : Vector Rule 16
  groups : Vector Group 16
  slots : Vector (Option Claim) 8
  due : List SlotNo
  ranOut : List SlotNo
  aging : Aging
  segs : Vector SegCtl 4
  port : Port
  sdo : List Byte
  pending : List Instr
  deriving DecidableEq, Repr

/-- The part when a reset has completed (R183): every block at its reset values, and no command waiting. -/
def State.reset : State where
  phase := .operating
  engine := Engine.reset
  config := Params.reset
  policy := Vector.replicate 4 Policy.reset
  records := Vector.replicate 256 Record.empty
  pool := Pool.reset
  rules := Vector.replicate 16 Rule.cleared
  groups := Vector.replicate 16 Group.reset
  slots := Vector.replicate 8 none
  due := []
  ranOut := []
  aging := Aging.reset
  segs := Vector.replicate 4 SegCtl.reset
  port := Port.reset
  sdo := []
  pending := []

/-- Why a step could stop with a fault. There is none: the manual gives every command of the part a result, and no
behaviour of it stops the part (the FAULT state of a segment, R164, is a state of the part). -/
inductive Fault where
  deriving DecidableEq, Repr

/-- Why a command could be refused. -/
inductive Refusal where
  /-- Raised by an arm of `exec` alone, for a command that has no meaning yet. Safe: nothing can be proved of what the
  command does. No arm raises it: every command has its meaning. -/
  | notModelled (mnemonic : String)
  deriving DecidableEq, Repr

end Sys2Proof.Machine
end

