-- ==== Sys2Proof/Machine/Formats.lean ====
section
/-! DEFINITION. The byte layouts that the G240 sends (chapter 10, R187 to R190): codes, message bodies, the record image
and the answers' payloads, with the CRC-8 of R188 and the CRC-16 of R186. -/

namespace Sys2Proof.Machine

/-! ### Multi-byte values, most significant byte first (chapter 10) -/

/-- The two bytes of a 16-bit value. -/
def bytes16 (w : BitVec 16) : List Byte := [w.extractLsb' 8 8, w.extractLsb' 0 8]

/-- The eight bytes of a module ID, byte 0 first. -/
def idBytes (i : ModuleId) : List Byte :=
  [i.extractLsb' 56 8, i.extractLsb' 48 8, i.extractLsb' 40 8, i.extractLsb' 32 8,
   i.extractLsb' 24 8, i.extractLsb' 16 8, i.extractLsb' 8 8, i.extractLsb' 0 8]

/-- The byte of a small number. -/
def numByte (n : Nat) : Byte := BitVec.ofNat 8 n

/-- The byte whose bits are those given, bit 0 first; the bits beyond them are 0 (log entry 5). -/
def bitsByte (bs : List Bool) : Byte := numByte (bs.foldr (fun b n => b.toNat + 2 * n) 0)

/-- YES, ON and ENABLED are 01h; NO, OFF and DISABLED are 00h (R189). -/
def flagByte (b : Bool) : Byte := if b then 0x01 else 0x00

/-- A segment mask as a byte: bits 0..3 stand for S0..S3 (R189; bits 7..4, log entry 5). -/
def maskByte (m : SegSet) : Byte := m.setWidth 8

/-! ### Check sequences -/

/-- One bit of the CRC-8: polynomial x^8 + x^2 + x + 1 (R188). -/
def crc8Shift (c : Byte) : Byte := if c.msb then (c <<< 1) ^^^ 0x07 else c <<< 1

/-- The CRC-8 of R172 and R188: initial value 00h, each byte most significant bit first. -/
def crc8 (bs : List Byte) : Byte := bs.foldl (fun c b => crc8Shift^[8] (c ^^^ b)) 0x00

/-- One bit of the CRC-16: polynomial x^16 + x^15 + x^2 + 1 (R186). -/
def crc16Shift (c : BitVec 16) : BitVec 16 := if c.msb then (c <<< 1) ^^^ 0x8005 else c <<< 1

/-- The CRC-16 of R186: initial value FFFFh, each byte most significant bit first. -/
def crc16 (bs : List Byte) : BitVec 16 :=
  bs.foldl (fun c b => crc16Shift^[8] (c ^^^ (b ++ (0 : Byte)))) 0xFFFF

/-! ### Codes -/

/-- The kind nibble of the record image (R190). -/
def Kind.code : Kind → BitVec 4
  | .none => 0 | .dynamic => 1 | .static => 2 | .denied => 3

/-- The state nibble of the record image (R190). -/
def RecState.code : RecState → BitVec 4
  | .empty => 0 | .pending => 1 | .dormant => 2 | .active => 3 | .stale => 4 | .retired => 5

/-- The address states (R190). -/
def Place.code : Place → Byte
  | .free => 0x00 | .held => 0x01 | .reserved => 0x02 | .offered _ => 0x03 | .bound _ => 0x04 | .invalid => 0x05

/-- The modes (R190). -/
def Mode.code : Mode → Byte
  | .halted => 0x00 | .running => 0x01 | .flushing => 0x02

/-- The segment states (R190). -/
def SegState.code : SegState → BitVec 2
  | .disabled => 0 | .listening => 1 | .hushed => 2 | .fault => 3

/-- The receiver states (R190). -/
def RxState.code : RxState → Byte
  | .off => 0x00 | .gap => 0x01 | .ready => 0x02 | .receiving => 0x03

/-- The transmitter states (R190). -/
def TxState.code : TxState → Byte
  | .idle => 0x00 | .sending => 0x01 | .backoff _ => 0x02

/-- The bit rates (R189). -/
def BitRate.code : BitRate → Byte
  | .k62 => 0x00 | .k125 => 0x01 | .k250 => 0x02 | .k500 => 0x03

/-- The status codes (R188). -/
def Status.code : Status → Byte
  | .ok => 0x00 | .notFound => 0x01 | .exists_ => 0x02 | .addressInUse => 0x03 | .addressInvalid => 0x04
  | .idInvalid => 0x05 | .bucketFull => 0x06 | .generationMismatch => 0x07 | .wrongMode => 0x08
  | .wrongState => 0x09 | .wrongKind => 0x0A | .badParameter => 0x0B | .badCommand => 0x0C

/-- The REFUSE reasons (R187). -/
def Refuse.code : Refuse → Byte
  | .halted => 0x01 | .busy => 0x02 | .denied => 0x03 | .notAdmitted => 0x04 | .boundElsewhere => 0x05
  | .claimsFull => 0x06 | .tableFull => 0x07 | .noAddress => 0x08 | .offerLimit => 0x09 | .staleOffer => 0x0A

/-- DEFAULT_POLICY: ADMIT is 01h and DENY is 00h (R189). -/
def Decision.policyCode : Decision → Byte
  | .permit => 0x01 | .deny => 0x00

/-- The action of an admission rule: ADMIT is 00h and DENY is 01h (R189). -/
def Decision.actionCode : Decision → Byte
  | .permit => 0x00 | .deny => 0x01

/-! ### Segment messages (R187) -/

/-- The kind code of a message the G240 sends. -/
def Message.kindCode : Message → Byte
  | .offer .. => 0x11 | .confirm .. => 0x12 | .refuse .. => 0x13 | .revoke .. => 0x14 | .probe .. => 0x15
  | .reply .. => 0x16 | .reannounce => 0x17

/-- The kind code of a RESOLVE frame, which is also the question kind of its REPLY. -/
def Question.kindCode : Question → Byte
  | .byId _ => 0x06 | .byAddress _ => 0x07 | .byGroup .. => 0x08

/-- A query as asked. -/
def Question.bytes : Question → List Byte
  | .byId target => idBytes target
  | .byAddress target => [target]
  | .byGroup g start => [g, start]

/-- The result byte of a REPLY and the result data after it: bit 0 RESOLVED, bit 1 TRUNCATED. -/
def Result.bytes : Result → List Byte
  | .unknown => [0x00]
  | .address a => [0x01, a]
  | .id i => 0x01 :: idBytes i
  | .group as truncated => bitsByte [true, truncated] :: numByte as.length :: as

/-- The body of a message the G240 sends. -/
def Message.body : Message → List Byte
  | .offer id nonce a => idBytes id ++ bytes16 nonce ++ [a]
  | .confirm id a => idBytes id ++ [a]
  | .refuse id reason hint => idBytes id ++ [reason.code, hint]
  | .revoke id a => idBytes id ++ [a]
  | .probe id a => idBytes id ++ [a]
  | .reply requester q r => idBytes requester ++ [q.kindCode] ++ q.bytes ++ r.bytes
  | .reannounce => []

/-- The nonce of an OFFER. -/
def Message.offerNonce : Message → Option (BitVec 16)
  | .offer _ nonce _ => some nonce
  | _ => none

/-- The kind code of a message that a module sends. -/
def FieldMessage.kindCode : FieldMessage → Byte
  | .announce .. => 0x01 | .accept .. => 0x02 | .decline .. => 0x03 | .heartbeat _ => 0x04 | .release _ => 0x05
  | .resolve _ q => q.kindCode

/-- The body of a message that a module sends. -/
def FieldMessage.body : FieldMessage → List Byte
  | .announce id cls preferred => idBytes id ++ [cls, preferred]
  | .accept id nonce a => idBytes id ++ bytes16 nonce ++ [a]
  | .decline id nonce => idBytes id ++ bytes16 nonce
  | .heartbeat id => idBytes id
  | .release id => idBytes id
  | .resolve requester q => idBytes requester ++ q.bytes

/-- The bytes of a segment frame: header, body and CRC-16 (R186). -/
def frameBytes (dest source kind : Byte) (body : List Byte) : List Byte :=
  let covered := [dest, source, kind, numByte body.length] ++ body
  covered ++ bytes16 (crc16 covered)

/-- The frame of a transmit-queue entry: every message the G240 sends has source F0h (R187). -/
def TxEntry.frame (e : TxEntry) : List Byte :=
  frameBytes e.dest Config.ownAddress e.message.kindCode e.message.body

/-- The frame of a module's message. -/
def RxFrame.frame (f : RxFrame) : List Byte :=
  frameBytes f.dest f.source f.message.kindCode f.message.body

/-! ### The record image (R190) -/

/-- The presence byte of the record image. -/
def Record.presence (r : Record) : Byte :=
  bitsByte [r.segment.isSome, r.cls.isSome, r.lease.isSome, r.rule.isSome, r.slot.isSome]

/-- The 23-byte record image. -/
def Record.image (r : Record) : List Byte :=
  [(r.kind.code ++ r.state.code : BitVec 8)]
    ++ idBytes (r.id.getD 0)
    ++ [r.address.getD 0, r.cls.getD 0, r.lease.getD 0, r.ticks, r.conflicts.setWidth 8]
    ++ bytes16 r.groups
    ++ [r.attention]
    ++ bytes16 r.generation
    ++ [numByte ((r.segment.map Fin.val).getD 0), numByte ((r.rule.map Fin.val).getD 0),
        numByte ((r.slot.map Fin.val).getD 0), r.presence]

/-! ### Payloads of answers (R190) -/

/-- An answer: a status and a payload. -/
structure Answer where
  status : Status
  payload : List Byte
  deriving DecidableEq, Repr

/-- A failure status with a payload of length 0. -/
def Answer.bare (st : Status) : Answer := ⟨st, []⟩

/-- BAD_PARAMETER with its field number. -/
def Answer.badField (n : Nat) : Answer := ⟨.badParameter, [numByte n]⟩

/-- An answer that carries a record: its index and image. -/
def Answer.record (st : Status) (i : RecNo) (r : Record) : Answer := ⟨st, numByte i.val :: r.image⟩

/-- The position of a thing in a list, from the head, as a byte. -/
def positionByte (p : Option Nat) : Byte := numByte (p.getD 0)

/-- The bytes of a former ID in an answer: present flag and ID. -/
def formerBytes (former : Option ModuleId) : List Byte := flagByte former.isSome :: idBytes (former.getD 0)

/-- The fields of READ_ADDRESS OK after the address state (R49, R190). -/
def Pool.placeFields (p : Pool) (a : Address) (place : Place) : List Byte :=
  match place with
  | .free => positionByte (p.free.findIdx? (· == a)) :: formerBytes none ++ [0x00]
  | .held =>
    let e := p.hold.find? (·.address == a)
    positionByte (p.hold.findIdx? (·.address == a)) :: formerBytes (e.bind (·.former)) ++ [(e.map (·.ticks)).getD 0]
  | .offered i => numByte i.val :: formerBytes none ++ [0x00]
  | .bound i => numByte i.val :: formerBytes none ++ [0x00]
  | .reserved => 0x00 :: formerBytes none ++ [0x00]
  | .invalid => 0x00 :: formerBytes none ++ [0x00]

/-- READ_LIST OK for an entry of a list of the given length (R50, R190). -/
def listEntryBytes (length : Nat) (a : Address) (former : Option ModuleId) (ticks : Byte) : List Byte :=
  numByte length :: a :: formerBytes former ++ [ticks]

/-- The 13 bytes of CONFIGURE (R189). -/
def Params.bytes (c : Params) : List Byte :=
  bytes16 c.refKhz ++ [c.tickPeriod, c.defaultLease, c.staleWindow, c.holdPeriod, c.offerWindow, c.retryHint,
    c.defaultPolicy.policyCode, c.rangeLow, c.rangeHigh] ++ bytes16 c.defaultGroups

/-- Whether a sweep's next step is a record. -/
def SweepStep.isVisit : SweepStep → Bool
  | .holdList => false
  | .visit _ => true

/-- The record of a sweep's next step, 00h for the hold-list step. -/
def SweepStep.recordByte : SweepStep → Byte
  | .holdList => 0x00
  | .visit i => numByte i.val

/-- READ_CONFIG OK after the 13 parameter bytes (R68, R190). -/
def Engine.configBytes (e : Engine) : List Byte :=
  [e.mode.code] ++ bytes16 e.nonce
    ++ [bitsByte [e.sweeping, e.sweepNext.isVisit, e.flushing], e.sweepNext.recordByte, numByte e.owed,
        numByte e.flushNext.val]
    ++ bytes16 (BitVec.ofNat 16 e.emptied)

/-- The two bytes of a class override in an answer (R189; the flag byte of a present one, log entry 4). -/
def overrideBytes : Option Byte → List Byte
  | none => [0x00, 0x00]
  | some c => [if Config.overrideFlag c = 0x00 then 0x01 else Config.overrideFlag c, c]

/-- A rule in the 20 bytes of the WRITE_RULE payload (R75, R76, R190). -/
def ruleBytes (k : RuleNo) (r : Rule) : List Byte :=
  [numByte k.val, flagByte r.valid, r.action.actionCode, r.leadLength] ++ idBytes r.leadValue ++ [maskByte r.segments]
    ++ overrideBytes r.clsOverride ++ bytes16 r.groups ++ [r.low, r.high, r.lease]

/-- A group record in the five bytes of READ_GROUP OK (R190). -/
def groupBytes (g : GroupNo) (r : Group) : List Byte :=
  [numByte g.val, flagByte r.enabled, maskByte r.mask] ++ bytes16 (BitVec.ofNat 16 r.members)

/-- The state code of a busy slot (R190). -/
def ClaimPhase.code : ClaimPhase → Byte
  | .sending => 0x01 | .offered => 0x02

/-- READ_CLAIM OK (R111, R190): a FREE slot's fields read 00h. -/
def claimBytes (k : SlotNo) : Option Claim → List Byte
  | none => numByte k.val :: List.replicate 23 0x00
  | some c =>
    [numByte k.val, c.phase.code, numByte c.record.val] ++ idBytes c.id
      ++ [numByte c.segment.val, c.replyTo, c.address] ++ bytes16 c.nonce
      ++ [numByte c.repeats, numByte c.declines] ++ bytes16 (BitVec.ofNat 16 c.window) ++ [c.low, c.high]
      ++ bytes16 c.groups

/-- Whether a segment is enabled: LISTENING or HUSHED (R147). -/
def SegCtl.enabled (c : SegCtl) : Bool := c.state == .listening || c.state == .hushed

/-- The attempts made for the head of the transmit queue; 0 when the queue is empty (R151). -/
def SegCtl.headAttempts (c : SegCtl) : Nat := (c.tx.head?.map (·.attempts)).getD 0

/-- The 14-byte segment image (R151, R190). Move policy ACCEPT is 00h and REFUSE is 01h (R189). -/
def segmentBytes (n : SegNo) (c : SegCtl) (p : Policy) : List Byte :=
  [numByte n.val, c.state.code.setWidth 8, c.receiver.code, c.transmitter.code, numByte c.rx.length,
   numByte c.tx.length, numByte c.headAttempts, numByte c.notices.length,
   bitsByte [c.faultNotice, c.rxError, c.overflow], flagByte c.enabled, c.bitRate.code, flagByte p.learning,
   flagByte (!p.acceptMoves), maskByte p.visible]

/-! ### Host frames (R188) -/

/-- A response frame: TAG, COMMAND, STATUS, LENGTH, PAYLOAD and CHECK. -/
def Response.frame (r : Response) : List Byte :=
  let covered := [r.tag, r.command, r.status.code, numByte r.payload.length] ++ r.payload
  covered ++ [crc8 covered]

/-- The empty marker: TAG 00h, COMMAND 00h, STATUS FFh, LENGTH 00h and its CHECK. -/
def emptyMarker : List Byte := [0x00, 0x00, 0xFF, 0x00, crc8 [0x00, 0x00, 0xFF, 0x00]]

/-- A request frame: TAG, COMMAND, LENGTH, PAYLOAD and CHECK. -/
def requestFrame (tag command : Byte) (payload : List Byte) : List Byte :=
  let covered := [tag, command, numByte payload.length] ++ payload
  covered ++ [crc8 covered]

/-- What SDO carries when `clocked` bytes are clocked out of a block: its bytes, then FFh (R176, R178). -/
def shiftedOut (block : List Byte) (clocked : Nat) : List Byte :=
  block.take clocked ++ List.replicate (clocked - block.length) 0xFF

end Sys2Proof.Machine
end

