-- ==== Sys2Proof/Machine/Flags.lean ====
section
/-! DEFINITION. The host-side flags: the sticky flags (R179), the conditions of ATTN# (R182), the port byte (R169), the
status block (R178, R190) and the hush lines (R147). -/

namespace Sys2Proof.Machine

/-- The sticky flags of the Host Port (R170). -/
inductive StickyFlag where
  | rejectFull | rejectCheck | noticeLost | sweepLag
  | segFault (n : SegNo)
  deriving DecidableEq, Repr

/-- The bit of a sticky flag in the flags byte (R188). -/
def StickyFlag.bit : StickyFlag → Nat
  | .rejectFull => 0 | .rejectCheck => 1 | .noticeLost => 2 | .sweepLag => 3
  | .segFault n => 4 + n.val

/-- A flag is set; one already set stays set (R179). -/
def Port.raise (p : Port) (f : StickyFlag) : Port := { p with flags := p.flags ||| BitVec.twoPow 8 f.bit }

/-- Whether a flag is set. -/
def Port.isSet (p : Port) (f : StickyFlag) : Bool := p.flags.getLsbD f.bit

/-- A block's event sets a sticky flag (R179). -/
def State.raise (s : State) (f : StickyFlag) : State := { s with port := s.port.raise f }

/-- RESPONSE_READY holds while the response queue holds a response (R182). -/
def State.responseReady (s : State) : Bool := !s.port.responses.isEmpty

/-- ATTENTION holds while the attention count is above 0 (R182). -/
def State.attentionHolds (s : State) : Bool := decide (0 < s.engine.attnCount)

/-- FLAG holds while at least one sticky flag is set (R182). -/
def State.flagHolds (s : State) : Bool := s.port.flags != 0

/-- ATTN# is low while at least one enabled condition holds (R182). -/
def State.attnLow (s : State) : Bool :=
  (s.port.enables.getLsbD 0 && s.responseReady) || (s.port.enables.getLsbD 1 && s.attentionHolds)
    || (s.port.enables.getLsbD 2 && s.flagHolds)

/-- The hush line of a segment is driven active in HUSHED alone (R147). -/
def State.hushActive (s : State) (n : SegNo) : Bool := s.segs[n].state == .hushed

/-- The port byte: free credits, responses ready, flag summary, attention summary (R169, R188). -/
def State.portByte (s : State) : Byte :=
  BitVec.ofNat 3 s.port.credits ++ BitVec.ofNat 3 s.port.responses.length ++ BitVec.ofBool s.flagHolds
    ++ BitVec.ofBool s.attentionHolds

/-- The number of busy claim slots (R178). -/
def State.busyClaims (s : State) : Nat := s.slots.toList.countP Option.isSome

/-- Byte 10 of the status block: sweep in flight, owed ticks, and whether the sweep's next step is a record. -/
def Engine.sweepByte (e : Engine) : Byte :=
  (0 : BitVec 4) ++ BitVec.ofBool (e.sweeping && e.sweepNext.isVisit) ++ BitVec.ofNat 2 e.owed
    ++ BitVec.ofBool e.sweeping

/-- Byte 13 of the status block: the next record of a sweep or a flush in flight. -/
def Engine.nextRecordByte (e : Engine) : Byte :=
  if e.sweeping then e.sweepNext.recordByte else if e.flushing then numByte e.flushNext.val else 0x00

/-- The 14-byte status block (R178, R190). -/
def State.statusBlock (s : State) : List Byte :=
  [s.engine.mode.code, numByte s.port.requests.length, numByte s.port.responses.length, numByte s.port.credits]
    ++ bytes16 (BitVec.ofNat 16 s.engine.attnCount)
    ++ [numByte s.pool.free.length, numByte s.pool.hold.length, numByte s.busyClaims,
        (s.segs[3].state.code ++ s.segs[2].state.code ++ s.segs[1].state.code ++ s.segs[0].state.code : BitVec 8),
        s.engine.sweepByte, s.port.flags,
        BitVec.ofBool s.attnLow ++ (0 : BitVec 4) ++ s.port.enables, s.engine.nextRecordByte]

end Sys2Proof.Machine
end

