-- ==== Sys2Proof/Machine/Operands.lean ====
section
/-! DEFINITION. The operands of commands: the fields of request payloads (R189), the request frame of SUBMIT (R172), and
the frames of the segments as the filter reads them (R153, R154, R186, R187). -/

namespace Sys2Proof.Machine

/-! ### Fields -/

/-- The module ID of eight bytes, byte 0 first. -/
def joinId (b0 b1 b2 b3 b4 b5 b6 b7 : Byte) : ModuleId :=
  b0 ++ b1 ++ b2 ++ b3 ++ b4 ++ b5 ++ b6 ++ b7

/-- The 16-bit value of two bytes, high byte first. -/
def join16 (hi lo : Byte) : BitVec 16 := hi ++ lo

/-- Byte k of a payload. -/
def byteAt (p : List Byte) (k : Nat) : Byte := p.getD k 0

/-- The 16-bit field at byte k. -/
def wordAt (p : List Byte) (k : Nat) : BitVec 16 := join16 (byteAt p k) (byteAt p (k + 1))

/-- The module ID at byte k. -/
def idAt (p : List Byte) (k : Nat) : ModuleId :=
  joinId (byteAt p k) (byteAt p (k + 1)) (byteAt p (k + 2)) (byteAt p (k + 3)) (byteAt p (k + 4)) (byteAt p (k + 5))
    (byteAt p (k + 6)) (byteAt p (k + 7))

/-- The segment mask at byte k: bits 7..4 are ignored (R189). -/
def maskAt (p : List Byte) (k : Nat) : SegSet := (byteAt p k).setWidth 4

/-- The record index at byte k. -/
def indexAt (p : List Byte) (k : Nat) : RecNo := (byteAt p k).toFin

/-- A value that must be below a bound, as an index. -/
def boundedAt (bound : Nat) (p : List Byte) (k : Nat) : Option (Fin bound) :=
  if h : (byteAt p k).toNat < bound then some ⟨(byteAt p k).toNat, h⟩ else none

/-- A two-valued field: 01h and 00h stand for YES, ON or ENABLED and NO, OFF or DISABLED (R189). -/
def yesNo (b : Byte) : Option Bool := if b = 0x01 then some true else if b = 0x00 then some false else none

/-- Whether a module ID is one of the two invalid values (chapter 0). -/
def invalidId (i : ModuleId) : Bool := i == 0 || i == 0xFFFFFFFFFFFFFFFF

/-- Whether an address is assignable: 01h..EFh (chapter 0). -/
def assignable (a : Address) : Bool := decide (Config.firstAddress ≤ a) && decide (a ≤ Config.lastAddress)

/-- Whether an address lies in low..high. -/
def inRange (low high a : Address) : Bool := decide (low ≤ a) && decide (a ≤ high)

/-- Whether low..high is a range within 01h..EFh with low ≤ high (R66, R74). -/
def validRange (low high : Address) : Bool := assignable low && assignable high && decide (low ≤ high)

/-! ### EDIT_RECORD (R189) -/

/-- The change items of EDIT_RECORD with their values. -/
structure EditItems where
  cls : Option Byte
  groups : Option GroupSet
  lease : Option Byte
  clearConflict : Bool
  pin : Bool
  unpin : Bool
  deriving DecidableEq, Repr

/-- The change items of an EDIT_RECORD payload: bits 0..5 of the change-items byte. -/
def EditItems.ofPayload (p : List Byte) : EditItems :=
  let items := byteAt p 3
  { cls := if items.getLsbD 0 then some (byteAt p 4) else none
    groups := if items.getLsbD 1 then some (wordAt p 5) else none
    lease := if items.getLsbD 2 then some (byteAt p 7) else none
    clearConflict := items.getLsbD 3
    pin := items.getLsbD 4
    unpin := items.getLsbD 5 }

/-- Whether the changes hold any item other than clear conflict (R25). -/
def EditItems.beyondClear (e : EditItems) : Bool :=
  e.cls.isSome || e.groups.isSome || e.lease.isSome || e.pin || e.unpin

/-! ### CONFIGURE and WRITE_RULE -/

/-- DEFAULT_POLICY: ADMIT 01h, DENY 00h (R189). -/
def policyOf (b : Byte) : Option Decision :=
  if b = 0x01 then some .permit else if b = 0x00 then some .deny else none

/-- The action of a rule: ADMIT 00h, DENY 01h (R189). -/
def actionOf (b : Byte) : Option Decision :=
  if b = 0x00 then some .permit else if b = 0x01 then some .deny else none

/-- The parameters of a CONFIGURE payload, or the number of the first that is out of range (R66). -/
def Params.ofPayload (p : List Byte) : Except Nat Params :=
  let khz := wordAt p 0
  if khz.toNat < 1000 ∨ 50000 < khz.toNat then .error 1
  else if byteAt p 2 = 0 then .error 2
  else if byteAt p 3 = 0 then .error 3
  else if byteAt p 4 = 0 then .error 4
  else if byteAt p 6 = 0 then .error 6
  else if byteAt p 7 = 0 then .error 7
  else match policyOf (byteAt p 8) with
    | none => .error 8
    | some policy =>
      if validRange (byteAt p 9) (byteAt p 10) then
        .ok { refKhz := khz, tickPeriod := byteAt p 2, defaultLease := byteAt p 3, staleWindow := byteAt p 4,
              holdPeriod := byteAt p 5, offerWindow := byteAt p 6, retryHint := byteAt p 7, defaultPolicy := policy,
              rangeLow := byteAt p 9, rangeHigh := byteAt p 10, defaultGroups := wordAt p 11 }
      else .error 9

/-- The rule of a WRITE_RULE payload whose slot is in range, or the number of the first field that fails (R74); with
valid NO the rule is the cleared rule (R75). -/
def Rule.ofPayload (p : List Byte) : Except Nat Rule :=
  match yesNo (byteAt p 1) with
  | none => .error 2
  | some false => .ok Rule.cleared
  | some true =>
    match actionOf (byteAt p 2) with
    | none => .error 3
    | some action =>
      let length := byteAt p 3
      let value := idAt p 4
      if 64 < length.toNat then .error 4
      else if value <<< length.toNat ≠ 0 then .error 5
      else if !assignable (byteAt p 17) then .error 9
      else if !assignable (byteAt p 18) || decide (byteAt p 18 < byteAt p 17) then .error 10
      else if byteAt p 19 = 0 then .error 11
      else .ok { valid := true, action := action, leadLength := length, leadValue := value, segments := maskAt p 12,
                 clsOverride := if byteAt p 13 = 0 then none else some (byteAt p 14), groups := wordAt p 15,
                 low := byteAt p 17, high := byteAt p 18, lease := byteAt p 19 }

/-! ### SEGMENT_CONTROL (R148) -/

/-- The bit rate of a code (R189). -/
def bitRateOf (b : Byte) : Option BitRate :=
  if b = 0 then some .k62 else if b = 1 then some .k125 else if b = 2 then some .k250
  else if b = 3 then some .k500 else none

/-- The fields of a SEGMENT_CONTROL that pass its first seven checks. -/
structure SegFields where
  segment : SegNo
  enable : Bool
  learning : Bool
  acceptMoves : Bool
  visible : SegSet
  bitRate : BitRate
  clearFlags : Bool
  deriving DecidableEq, Repr

/-- The fields of a SEGMENT_CONTROL payload, or the number of the first that fails; move policy ACCEPT is 00h and REFUSE
is 01h (R148, R189). -/
def SegFields.ofPayload (p : List Byte) : Except Nat SegFields :=
  match boundedAt 4 p 0, yesNo (byteAt p 1), yesNo (byteAt p 2), yesNo (byteAt p 3), bitRateOf (byteAt p 5),
      yesNo (byteAt p 6) with
  | none, _, _, _, _, _ => .error 1
  | some _, none, _, _, _, _ => .error 2
  | some _, some _, none, _, _, _ => .error 3
  | some _, some _, some _, none, _, _ => .error 4
  | some _, some _, some _, some _, none, _ => .error 6
  | some _, some _, some _, some _, some _, none => .error 7
  | some n, some enable, some learning, some refuse, some rate, some clear =>
    .ok { segment := n, enable := enable, learning := learning, acceptMoves := !refuse, visible := maskAt p 4,
          bitRate := rate, clearFlags := clear }

/-! ### SUBMIT (R172) -/

/-- The request of a good frame's bytes. -/
def requestOf (input : List Byte) : Request :=
  { tag := byteAt input 0, command := byteAt input 1, payload := (input.drop 3).dropLast, taken := false }

/-- Whether the input bytes of a SUBMIT are a good frame (R172). -/
def goodFrame (input : List Byte) : Bool :=
  decide (4 ≤ input.length)
    && decide ((byteAt input 2).toNat ≤ Config.maxPayload)
    && decide (input.length = (byteAt input 2).toNat + 4)
    && (input.getLast? == some (crc8 input.dropLast))

/-! ### Segment frames (R153, R154) -/

/-- What the integrity checks of R153 make of a frame. -/
inductive Integrity where
  | fragment
  | bad
  | good
  deriving DecidableEq, Repr

/-- The integrity checks of R153 on a frame's whole bytes: fragment, over-length, CRC with the coding of the line, and
length. -/
def integrity (bs : List Byte) (codingError : Bool) : Integrity :=
  if bs.length < 4 then .fragment
  else if Config.maxFrame < bs.length then .bad
  else if codingError then .bad
  else if bytes16 (crc16 (bs.take (bs.length - 2))) ≠ bs.drop (bs.length - 2) then .bad
  else if bs.length ≠ (byteAt bs 3).toNat + 6 then .bad
  else .good

/-- The message of a kind code and a body, when the kind is one that modules send and the body has its length (checks 6
and 7 of R154, R187). -/
def FieldMessage.parse (kind : Byte) (body : List Byte) : Option FieldMessage :=
  if kind = 0x01 ∧ body.length = 10 then some (.announce (idAt body 0) (byteAt body 8) (byteAt body 9))
  else if kind = 0x02 ∧ body.length = 11 then some (.accept (idAt body 0) (wordAt body 8) (byteAt body 10))
  else if kind = 0x03 ∧ body.length = 10 then some (.decline (idAt body 0) (wordAt body 8))
  else if kind = 0x04 ∧ body.length = 8 then some (.heartbeat (idAt body 0))
  else if kind = 0x05 ∧ body.length = 8 then some (.release (idAt body 0))
  else if kind = 0x06 ∧ body.length = 16 then some (.resolve (idAt body 0) (.byId (idAt body 8)))
  else if kind = 0x07 ∧ body.length = 9 then some (.resolve (idAt body 0) (.byAddress (byteAt body 8)))
  else if kind = 0x08 ∧ body.length = 10 then
    some (.resolve (idAt body 0) (.byGroup (byteAt body 8) (byteAt body 9)))
  else none

/-- Check 5 of R154: the destination is F0h, or FFh for an ANNOUNCE. -/
def FieldMessage.destinationOk (m : FieldMessage) (dest : Address) : Bool :=
  match m with
  | .announce .. => dest == Config.ownAddress || dest == Config.broadcast
  | _ => dest == Config.ownAddress

/-- Check 8 of R154: the source is not in F0h..FFh, and is 00h only for ANNOUNCE, ACCEPT and DECLINE. -/
def FieldMessage.sourceOk (m : FieldMessage) (source : Address) : Bool :=
  match m with
  | .announce .. => decide (source ≤ Config.lastAddress)
  | .accept .. => decide (source ≤ Config.lastAddress)
  | .decline .. => decide (source ≤ Config.lastAddress)
  | _ => assignable source

/-- Check 9 of R154: every module ID field of the body is valid. -/
def FieldMessage.idsOk : FieldMessage → Bool
  | .announce id _ _ => !invalidId id
  | .accept id _ _ => !invalidId id
  | .decline id _ => !invalidId id
  | .heartbeat id => !invalidId id
  | .release id => !invalidId id
  | .resolve requester q =>
    !invalidId requester && (match q with
      | .byId target => !invalidId target
      | .byAddress _ => true
      | .byGroup .. => true)

/-- The content checks of R154 on a frame that has passed R153. -/
def contentCheck (bs : List Byte) : Option RxFrame :=
  match FieldMessage.parse (byteAt bs 2) ((bs.drop 4).take (byteAt bs 3).toNat) with
  | none => none
  | some m =>
    if m.destinationOk (byteAt bs 0) && m.sourceOk (byteAt bs 1) && m.idsOk then
      some { dest := byteAt bs 0, source := byteAt bs 1, message := m }
    else none

end Sys2Proof.Machine
end

