-- ==== Sys2Proof/Machine/Ops.lean ====
section
/-! DEFINITION. The shared operations of the blocks: records and their counts, placement and lookup, the Address Pool,
transmit placement, claim slots and withdrawal, the sweep's ticks, answers, enabling and disabling a segment, and
reset. -/

namespace Sys2Proof.Machine

/-! ### Parts of the state -/

/-- The state with another Table Engine state. -/
def State.withEngine (s : State) (e : Engine) : State := { s with engine := e }

/-- The state with another pool. -/
def State.withPool (s : State) (p : Pool) : State := { s with pool := p }

/-- The state with another Host Port. -/
def State.withPort (s : State) (p : Port) : State := { s with port := p }

/-- The state with another Segment Controller n. -/
def State.withSeg (s : State) (n : SegNo) (c : SegCtl) : State := { s with segs := s.segs.set n c }

/-- The state with another claim slot k. -/
def State.withSlot (s : State) (k : SlotNo) (c : Option Claim) : State := { s with slots := s.slots.set k c }

/-- The state with other due expiries. -/
def State.withDue (s : State) (d : List SlotNo) : State := { s with due := d }

/-- The state with what SDO carried. -/
def State.withSdo (s : State) (bs : List Byte) : State := { s with sdo := bs }

/-! ### Records -/

/-- A live record is ACTIVE or STALE (R2). -/
def Record.live (r : Record) : Bool := r.state == .active || r.state == .stale

/-- Whether a record counts towards its groups: STATIC in any state, or DYNAMIC ACTIVE or STALE (R17). -/
def Record.counted (r : Record) : Bool := r.kind == .static || (r.kind == .dynamic && r.live)

/-- What a record adds to the member count of a group. -/
def Record.countsFor (r : Record) (g : GroupNo) : Nat := if r.counted && r.groups.getLsbD g then 1 else 0

/-- What a record adds to the attention count (R15). -/
def Record.attentive (r : Record) : Nat := if r.attention = 0 then 0 else 1

/-- Whether lookup by ID can find a record: PENDING, DORMANT, ACTIVE or STALE (R9). -/
def Record.findable (r : Record) : Bool :=
  match r.state with
  | .pending => true | .dormant => true | .active => true | .stale => true
  | .empty => false | .retired => false

/-- The bit of a reason in the attention set (R190). -/
def Reason.bit : Reason → Nat
  | .learned => 0 | .returned => 1 | .moved => 2 | .stale => 3 | .expired => 4 | .released => 5 | .conflict => 6
  | .deniedSeen => 7

/-- A reason joins a record's attention set (R14). -/
def Record.notify (r : Record) (why : Reason) : Record :=
  { r with attention := r.attention ||| BitVec.twoPow 8 why.bit }

/-- The fields whose change is counted by the generation (R12). -/
def Record.sameTracked (a b : Record) : Bool :=
  a.state == b.state && a.kind == b.kind && a.address == b.address && a.segment == b.segment && a.cls == b.cls
    && a.groups == b.groups && a.lease == b.lease && a.conflicts == b.conflicts

/-- The generation after a change: after FFFFh comes 0001h (R12). -/
def nextGeneration (g : BitVec 16) : BitVec 16 := if g = 0xFFFF then 1 else g + 1

/-- The record `new` as an operation leaves it that found `old`: its generation counts one change if a field of R12
changed, and stands otherwise. -/
def Record.changed (old new : Record) : Record :=
  { new with generation := if old.sameTracked new then old.generation else nextGeneration old.generation }

/-- A record takes a new content; the attention count and the member counts follow it (R15, R17, R83). -/
def State.setRecord (s : State) (i : RecNo) (r : Record) : State :=
  { s with
    records := s.records.set i r
    engine := { s.engine with attnCount := s.engine.attnCount + r.attentive - s.records[i].attentive }
    groups := tabulate 16 fun g =>
      { s.groups[g] with members := s.groups[g].members + r.countsFor g - s.records[i].countsFor g } }

/-- An operation changes a record that stays non-EMPTY (R12). -/
def State.changeRecord (s : State) (i : RecNo) (new : Record) : State :=
  s.setRecord i (s.records[i].changed new)

/-- A record becomes EMPTY (R8). -/
def State.emptyRecord (s : State) (i : RecNo) : State := s.setRecord i Record.empty

/-- A refresh: the record is ACTIVE and its ticks left are its lease length (R5, R126). -/
def Record.refresh (r : Record) : Record := { r with state := .active, ticks := r.lease.getD 0 }

/-- A conflict charged to a record: the count saturates at 15 (R6). -/
def Record.charge (r : Record) : Record :=
  { r.notify .conflict with
    conflicts := if r.conflicts = Config.maxConflicts then r.conflicts else r.conflicts + 1 }

/-! ### Buckets: lookup and placement (R1, R9, R10) -/

/-- The bucket hash: the low six bits of the XOR of the eight bytes of a module ID (R1). -/
def bucketOf (id : ModuleId) : Fin 64 :=
  ((id.extractLsb' 56 8 ^^^ id.extractLsb' 48 8 ^^^ id.extractLsb' 40 8 ^^^ id.extractLsb' 32 8
    ^^^ id.extractLsb' 24 8 ^^^ id.extractLsb' 16 8 ^^^ id.extractLsb' 8 8 ^^^ id.extractLsb' 0 8).setWidth 6
      : BitVec 6).toFin

/-- The record index of a way of a bucket (R1). -/
def recordIndex (b : Fin 64) (w : Fin 4) : RecNo := ⟨b.val * 4 + w.val, by omega⟩

/-- The four ways of a bucket, lowest first. -/
def waysOf (b : Fin 64) : List RecNo := [recordIndex b 0, recordIndex b 1, recordIndex b 2, recordIndex b 3]

/-- Lookup by ID (R9). -/
def State.lookup (s : State) (id : ModuleId) : Option RecNo :=
  (waysOf (bucketOf id)).find? fun i => s.records[i].findable && s.records[i].id == some id

/-- The way a placement takes: the lowest EMPTY way of the bucket, else the lowest RETIRED way (R10). -/
def State.placementWay (s : State) (id : ModuleId) : Option RecNo :=
  ((waysOf (bucketOf id)).find? fun i => s.records[i].state == .empty).or
    ((waysOf (bucketOf id)).find? fun i => s.records[i].state == .retired)

/-- A new record is placed in a way, with generation 0001h; overwriting a tombstone sets NOTICE_LOST (R10, R11, R12). -/
def State.placeRecord (s : State) (i : RecNo) (r : Record) : State :=
  (if s.records[i].state = .retired then s.raise .noticeLost else s).setRecord i { r with generation := 1 }

/-! ### The Address Pool (chapter 2) -/

/-- The map entry of an address; 00h and F0h..FFh have no place (R30). -/
def Pool.placeOf (p : Pool) (a : Address) : Place := if assignable a then p.map[a.toFin] else .invalid

/-- The map names another place for an address. -/
def Pool.mark (p : Pool) (a : Address) (place : Place) : Pool := { p with map := p.map.set a.toFin place }

/-- An address leaves the lists; the entries behind it close up (R32, R35, R38). -/
def Pool.detach (p : Pool) (a : Address) : Pool :=
  { p with free := p.free.filter (· != a), hold := p.hold.filter (·.address != a) }

/-- An address is taken from where it stands and becomes RESERVED, OFFERED or BOUND (R22, R35, R38, R43, R46). -/
def Pool.take (p : Pool) (a : Address) (place : Place) : Pool :=
  if assignable a then (p.detach a).mark a place else p

/-- An address enters the free list at the head (R33). -/
def Pool.toHead (p : Pool) (a : Address) : Pool :=
  if assignable a then Pool.mark { p.detach a with free := a :: (p.detach a).free } a .free else p

/-- An address enters the free list at the tail (R34). -/
def Pool.toTail (p : Pool) (a : Address) : Pool :=
  if assignable a then Pool.mark { p.detach a with free := (p.detach a).free ++ [a] } a .free else p

/-- A full hold list releases its head entry early, to the tail of the free list (R36). -/
def Pool.makeHoldRoom (p : Pool) : Pool :=
  match p.hold with
  | [] => p
  | e :: rest => if Config.holdCapacity ≤ p.hold.length then Pool.toTail { p with hold := rest } e.address else p

/-- An address enters the hold list at the tail with its former ID, or the tail of the free list when HOLD_PERIOD is 0
(R36). -/
def Pool.toHold (p : Pool) (period : Byte) (a : Address) (former : Option ModuleId) : Pool :=
  if period = 0 then p.toTail a
  else if assignable a then
    let q := (p.detach a).makeHoldRoom
    Pool.mark { q with hold := q.hold ++ [{ address := a, former := former, ticks := period }] } a .held
  else p

/-- One tick off a hold entry above 0 (R37). -/
def HoldEntry.countDown (e : HoldEntry) : HoldEntry := if e.ticks = 0 then e else { e with ticks := e.ticks - 1 }

/-- The addresses of the entries at the head of the hold list that are at 0. -/
def expiredHead (hold : List HoldEntry) : List Address := (hold.takeWhile (·.ticks == 0)).map (·.address)

/-- The hold list counts down and releases the expired entries at its head, in order (R37). -/
def Pool.countDown (p : Pool) : Pool :=
  let counted := p.hold.map HoldEntry.countDown
  (expiredHead counted).foldl Pool.toTail { p with hold := counted.dropWhile (·.ticks == 0) }

/-- Whether a hold entry of an address has the given former ID (R40, step 2). -/
def Pool.formerlyOf (p : Pool) (a : Address) (id : ModuleId) : Bool :=
  p.hold.any fun e => e.address == a && e.former == some id

/-- Steps 3 and 4 of allocation, passing over the addresses that `skip` names (R40, R42, R108). -/
def Pool.allocateFromLists (p : Pool) (low high : Address) (skip : Address → Bool) : Option Address :=
  (p.free.find? fun a => inRange low high a && !skip a).or
    ((p.hold.find? fun e => inRange low high e.address && !skip e.address).map (·.address))

/-- Allocation for the first offer of a claim: the four steps of R40; a preferred address of 00h or F0h..FFh is none
(R41). -/
def Pool.allocateFirst (p : Pool) (low high : Address) (id : ModuleId) (preferred : Address) : Option Address :=
  if p.placeOf preferred = .free ∧ inRange low high preferred = true then some preferred
  else if p.placeOf preferred = .held ∧ p.formerlyOf preferred id = true then some preferred
  else p.allocateFromLists low high fun _ => false

/-- Allocation for the re-offer after a DECLINE: steps 3 and 4, past the address just declined (R40, R42, R108). -/
def Pool.allocateAgain (p : Pool) (low high declined : Address) : Option Address :=
  p.allocateFromLists low high (· == declined)

/-! ### Transmit queues (R157, R162) -/

/-- A placement finds room: the segment is enabled and its queue holds fewer than 6 messages (R157). -/
def SegCtl.room (c : SegCtl) : Bool := c.enabled && decide (c.tx.length < Config.txCapacity)

/-- A message joins the tail with attempt count 0 (R157). -/
def SegCtl.enqueue (c : SegCtl) (dest : Address) (m : Message) : SegCtl := { c with tx := c.tx ++ [⟨dest, m, 0⟩] }

/-- A refused placement sets OVERFLOW on an enabled segment, and no flag on one that is down (R157). -/
def SegCtl.refusePlacement (c : SegCtl) : SegCtl := if c.enabled then { c with overflow := true } else c

/-- A placement: appended, refused with OVERFLOW, or refused with no flag (R157). -/
def State.place (s : State) (n : SegNo) (dest : Address) (m : Message) : State :=
  s.withSeg n (if s.segs[n].room then s.segs[n].enqueue dest m else s.segs[n].refusePlacement)

/-- An operation `done` that answers with a message on segment n, found from the state `orig`: it stands with its message
queued when the queue has room after it, and otherwise has no effect but OVERFLOW (R96, R128). -/
def State.replyOr (done orig : State) (n : SegNo) (dest : Address) (m : Message) : State :=
  if done.segs[n].room then done.withSeg n (done.segs[n].enqueue dest m)
  else orig.withSeg n orig.segs[n].refusePlacement

/-- Whether an entry is an unstarted OFFER of a nonce (R162). -/
def TxEntry.unstartedOffer (e : TxEntry) (nonce : BitVec 16) : Bool :=
  e.attempts == 0 && e.message.offerNonce == some nonce

/-- An enabled controller gives up the unstarted OFFERs of a nonce (R162). -/
def SegCtl.dropOffers (c : SegCtl) (nonce : BitVec 16) : SegCtl :=
  if c.enabled then { c with tx := c.tx.filter fun e => !e.unstartedOffer nonce } else c

/-- Every unstarted OFFER of a nonce is removed from every transmit queue (R92, R162). -/
def State.removeOffers (s : State) (nonce : BitVec 16) : State :=
  { s with segs := tabulate 4 fun n => s.segs[n].dropOffers nonce }

/-! ### Claim slots (R90, R110) -/

/-- The length with which an offer window starts: OFFER_WINDOW × 10 ms (R91). -/
def State.fullWindow (s : State) : Nat := s.config.offerWindow.toNat * 10

/-- An expiry of a slot is no longer due (R58). -/
def State.cancelExpiry (s : State) (k : SlotNo) : State := s.withDue (s.due.filter (· != k))

/-- A slot becomes FREE, its window stopped and its expiry no longer due (R91). -/
def State.freeSlot (s : State) (k : SlotNo) : State := (s.withSlot k none).cancelExpiry k

/-- The lowest-numbered FREE slot (R103). -/
def State.firstFreeSlot (s : State) : Option SlotNo := (List.finRange 8).find? fun k => s.slots[k].isNone

/-- The busy slot whose claim has a property; of several, the lowest-numbered. By nonce alone there may be several, once the
nonce counter has come round past a claim still in flight: which of them is meant is the model's choice (log entry 22). -/
def State.findClaim (s : State) (p : Claim → Bool) : Option (SlotNo × Claim) :=
  (List.finRange 8).findSome? fun k => (s.slots[k].filter p).map fun c => (k, c)

/-- Withdrawal of the claim of a slot (R110). -/
def State.withdraw (s : State) (k : SlotNo) : State :=
  match s.slots[k] with
  | none => s.freeSlot k
  | some c =>
    let s1 := (s.removeOffers c.nonce).freeSlot k
    (s1.withPool (s1.pool.toHead c.address)).emptyRecord c.record

/-- The slots in descending order, in which one operation withdraws several claims (R33). -/
def slotsDescending : List SlotNo := [7, 6, 5, 4, 3, 2, 1, 0]

/-- Withdrawal of every claim that has a property, in one operation (R33, R110). -/
def State.withdrawWhere (s : State) (p : Claim → Bool) : State :=
  slotsDescending.foldl (fun t k => if t.slots[k].any p then t.withdraw k else t) s

/-- Withdrawal of every claim (R61, R62). -/
def State.withdrawAll (s : State) : State := s.withdrawWhere fun _ => true

/-- Withdrawal of every claim whose slot's segment is n (R57, R149, R150, R165). -/
def State.withdrawSegment (s : State) (n : SegNo) : State := s.withdrawWhere fun c => c.segment == n

/-- The slot of a PENDING record is freed, its unstarted OFFERs removed, and its offered address returned to the head of
the free list unless the record keeps it: the withdrawal of a conversion (R23, R24, R110). -/
def State.withdrawForConversion (s : State) (r : Record) (keep : Option Address) : State :=
  match r.slot with
  | none => s
  | some k =>
    match s.slots[k] with
    | none => s.freeSlot k
    | some c =>
      let s1 := (s.removeOffers c.nonce).freeSlot k
      if keep = some c.address then s1 else s1.withPool (s1.pool.toHead c.address)

/-- The nonce counter after a draw: after FFFFh comes 0001h (R70). -/
def nextNonce (n : BitVec 16) : BitVec 16 := if n = 0xFFFF then 1 else n + 1

/-- The nonce counter advances (R70). -/
def State.drawNonce (s : State) : State := s.withEngine { s.engine with nonce := nextNonce s.engine.nonce }

/-! ### The release of a bound address (R45) -/

/-- The address of a record that ends goes to the hold list with the record's ID, subject to R36. -/
def State.holdAddressOf (s : State) (r : Record) : State :=
  match r.address with
  | none => s
  | some a => s.withPool (s.pool.toHold s.config.holdPeriod a r.id)

/-- The address of a record that ends goes to the tail of the free list. -/
def State.freeAddressOf (s : State) (r : Record) : State :=
  match r.address with
  | none => s
  | some a => s.withPool (s.pool.toTail a)

/-- A live binding ends by its kind with a reason: a DYNAMIC record becomes a tombstone and its address is held, a
STATIC one becomes DORMANT and keeps its address (R16, R120, R130). -/
def State.endBinding (s : State) (i : RecNo) (why : Reason) : State :=
  let r := s.records[i]
  if r.kind = .static then s.changeRecord i { r.notify why with state := .dormant, ticks := 0 }
  else (s.changeRecord i { r.notify why with state := .retired, ticks := 0, groups := 0 }).holdAddressOf r

/-! ### Messages on a record's segment -/

/-- A message is placed on the segment recorded in a record, to the record's address (R28, R122). -/
def State.placeForRecord (s : State) (r : Record) (m : Message) : State :=
  match r.segment with
  | none => s
  | some n => s.place n (r.address.getD 0) m

/-! ### Ticks and sweeps (R113 to R116) -/

/-- The COMMAND code of FLUSH_DYNAMIC (R189). -/
def flushCode : Byte := 0x31

/-- A FLUSH_DYNAMIC stands untaken at the head of the request queue (R62; whatever its LENGTH, log entry 7). -/
def State.flushWaiting (s : State) : Bool :=
  match s.port.requests with
  | r :: _ => !r.taken && r.command == flushCode
  | [] => false

/-- A sweep starts, with next step the hold-list step (R116). -/
def Engine.startSweep (e : Engine) : Engine := { e with sweeping := true, sweepNext := .holdList }

/-- A tick is owed; one that finds 2 owed is lost with SWEEP_LAG (R114). -/
def State.oweTick (s : State) : State :=
  if s.engine.owed < Config.owedLimit then s.withEngine { s.engine with owed := s.engine.owed + 1 }
  else s.raise .sweepLag

/-- The delivery of an aging tick to the sweep state (R114). -/
def State.deliverTick (s : State) : State :=
  match s.engine.mode with
  | .halted => s
  | .running =>
    if s.engine.sweeping || s.flushWaiting then s.oweTick else s.withEngine s.engine.startSweep
  | .flushing => s.oweTick

/-- An owed tick starts a sweep (R115). -/
def State.sweepFromOwed (s : State) : State :=
  if 0 < s.engine.owed then s.withEngine { s.engine.startSweep with owed := s.engine.owed - 1 } else s

/-- The window of an OFFERED slot counts one millisecond down (R91). -/
def Claim.countDown (c : Claim) : Claim := if c.phase = .offered then { c with window := c.window - 1 } else c

/-- Whether the window of a claim runs out in the next millisecond. -/
def Claim.runsOut (c : Claim) : Bool := c.phase == .offered && c.window == 1

/-- The slots of which a property holds, in ascending order. -/
def slotsWhere (p : SlotNo → Bool) : List SlotNo := (List.finRange 8).filter p

/-- One millisecond off the windows of the OFFERED slots; the slots whose window reaches 0 become due in ascending
order, behind those of earlier milliseconds (R58, R91). -/
def State.countWindows (s : State) : State :=
  { s with
    slots := tabulate 8 fun k => s.slots[k].map Claim.countDown
    due := s.due ++ slotsWhere fun k => s.slots[k].any Claim.runsOut
    ranOut := slotsWhere fun k => s.slots[k].any Claim.runsOut }

/-- The milliseconds of a tick period: TICK_PERIOD × 100 (R113). -/
def Params.tickMillis (c : Params) : Nat := c.tickPeriod.toNat * 100

/-- A completed millisecond: the windows count down and the tick counter advances, delivering a tick when it completes
(R113). -/
def State.completeMillisecond (s : State) : State :=
  let t := s.countWindows
  if t.config.tickMillis ≤ t.aging.tickCount + 1 then
    State.deliverTick { t with aging := { divider := 0, tickCount := 0 } }
  else { t with aging := { divider := 0, tickCount := t.aging.tickCount + 1 } }

/-- One period of REFCLK: the millisecond divider counts it, and completes a millisecond at REF_KHZ periods (R113). While
the part is held in reset nothing is counted. -/
def State.refclkPeriod (s : State) : State :=
  if s.phase = .operating then
    if s.config.refKhz.toNat ≤ s.aging.divider + 1 then s.completeMillisecond
    else { s with aging := { s.aging with divider := s.aging.divider + 1 } }
  else s

/-! ### Answers (R174, R175) -/

/-- The response to a request is placed and the request leaves the head of its queue (R174). -/
def State.answer (s : State) (r : Request) (a : Answer) : State :=
  s.withPort { s.port with
    requests := s.port.requests.tail
    responses := s.port.responses ++ [⟨r.tag, r.command, a.status, a.payload⟩] }

/-! ### Segments (R149, R150, R164) -/

/-- Whatever a controller holds for transmission or for the Table Engine is discarded, and its line released (R149, R150,
R164). -/
def SegCtl.cleared (c : SegCtl) : SegCtl :=
  { c with rx := [], tx := [], notices := [], faultNotice := false, transmitter := .idle, lineOut := [] }

/-- Disabling a segment (R150). -/
def State.disableSegment (s : State) (n : SegNo) : State :=
  let t := s.withdrawSegment n
  t.withSeg n { t.segs[n].cleared with state := .disabled, receiver := .off, monitor := .off }

/-- Enabling a segment from DISABLED or FAULT (R149). The monitor counts from this moment. -/
def State.enableSegment (s : State) (n : SegNo) : State :=
  let t := if s.segs[n].faultNotice then s.withdrawSegment n else s
  t.withSeg n { t.segs[n].cleared with
    state := .listening, receiver := .gap, monitor := .measuring, rxError := false, overflow := false }

/-- Entry to FAULT (R164). -/
def State.enterFault (s : State) (n : SegNo) : State :=
  (s.withSeg n { s.segs[n].cleared with
    state := .fault, receiver := .off, monitor := .off, faultNotice := true }).raise (.segFault n)

/-! ### Reset (R183) -/

/-- Every block returns to its reset values, and the part is held in reset. What SDO carried is given; the queue of
commands is not part of the part. -/
def State.enterReset (s : State) (cause : Phase) (sdo : List Byte) : State :=
  { State.reset with phase := cause, sdo := sdo, pending := s.pending }

end Sys2Proof.Machine
end

