-- ==== Sys2Proof/Machine/Arbiter.lean ====
section
/-! DEFINITION. The arbiter and the work its requesters present (R55 to R58). -/

namespace Sys2Proof.Machine

/-- The work a requester presents. -/
inductive Work where
  | request (r : Request)
  | faultNotice (n : SegNo)
  | notice (n : SegNo) (x : Notice)
  | frame (n : SegNo) (f : RxFrame)
  | expiry (k : SlotNo)
  | sweepStep (x : SweepStep)
  | flushStep (i : RecNo)
  deriving DecidableEq, Repr

/-- HOST presents its head request unless it waits: a taken FLUSH_DYNAMIC, or an untaken one in RUNNING while a sweep is
in flight (R56). -/
def State.hostWork (s : State) : Option Work :=
  match s.port.requests with
  | [] => none
  | r :: _ =>
    if r.taken then none
    else if r.command = flushCode ∧ s.engine.mode = .running ∧ s.engine.sweeping = true then none
    else some (.request r)

/-- SEGn presents a fault notice, else its oldest transmit notice, else its oldest frame (R57). -/
def State.segWork (s : State) (n : SegNo) : Option Work :=
  if s.segs[n].faultNotice then some (.faultNotice n)
  else match s.segs[n].notices with
    | x :: _ => some (.notice n x)
    | [] =>
      match s.segs[n].rx with
      | f :: _ => some (.frame n f)
      | [] => none

/-- TIMER presents the oldest due expiry, else the step of a sweep in flight, else the step of a flush in flight
(R58). -/
def State.timerWork (s : State) : Option Work :=
  match s.due with
  | k :: _ => some (.expiry k)
  | [] =>
    if s.engine.sweeping then some (.sweepStep s.engine.sweepNext)
    else if s.engine.flushing then some (.flushStep s.engine.flushNext)
    else none

/-- The work of a requester. -/
def State.presents (s : State) : Requester → Option Work
  | .host => s.hostWork
  | .seg n => s.segWork n
  | .timer => s.timerWork

/-- The ring from the requester after the one named, round to that one (R55). -/
def ringAfter : Requester → List Requester
  | .host => [.seg 0, .seg 1, .seg 2, .seg 3, .timer, .host]
  | .seg n =>
    match n with
    | 0 => [.seg 1, .seg 2, .seg 3, .timer, .host, .seg 0]
    | 1 => [.seg 2, .seg 3, .timer, .host, .seg 0, .seg 1]
    | 2 => [.seg 3, .timer, .host, .seg 0, .seg 1, .seg 2]
    | 3 => [.timer, .host, .seg 0, .seg 1, .seg 2, .seg 3]
  | .timer => [.host, .seg 0, .seg 1, .seg 2, .seg 3, .timer]

/-- The work the arbiter grants: that of the first requester found with work (R55). -/
def State.granted (s : State) : Option Work := (ringAfter s.engine.pointer).findSome? s.presents

/-- The requester granted is the one the pointer names afterwards (R55). -/
def State.pointTo (s : State) (r : Requester) : State := s.withEngine { s.engine with pointer := r }

/-- A grant to HOST takes a request of the command given (R56, R174): a LENGTH other than the command's is answered
BAD_PARAMETER with field number 0, and otherwise `run` performs the command on its payload. Where the arbiter does not
grant such a request, the step is not taken (log entry 1). -/
def State.serve (s : State) (code : Byte) (length : Nat) (run : List Byte → State → State × Answer) : State :=
  match s.granted with
  | some (.request r) =>
    if r.command = code then
      if r.payload.length = length then
        ((run r.payload (s.pointTo .host)).1).answer r (run r.payload (s.pointTo .host)).2
      else (s.pointTo .host).answer r (.badField 0)
    else s
  | _ => s

/-- A frame leaves the receive queue of segment n, and HUSH is released (R156). -/
def SegCtl.takeFrame (c : SegCtl) : SegCtl :=
  { c with rx := c.rx.tail, state := if c.state = .hushed then .listening else c.state }

/-- The state in which the operation of a frame taken on segment n is performed. -/
def State.takeFrame (s : State) (n : SegNo) : State :=
  (s.pointTo (.seg n)).withSeg n s.segs[n].takeFrame

/-- A grant to SEGn takes a received frame whose message `run` performs (R57, R156). Where the arbiter does not grant such
a frame, the step is not taken (log entry 1). -/
def State.onFrame (s : State) (n : SegNo) (run : Address → FieldMessage → State → Option State) : State :=
  match s.granted with
  | some (.frame m f) => if m = n then (run f.source f.message (s.takeFrame n)).getD s else s
  | _ => s

end Sys2Proof.Machine
end

