-- ==== Sys2Proof/Machine/AdmissionCommands.lean ====
section
/-! DEFINITION. The host commands on admission rules, groups and claim slots (chapters 4 and 5, R74 to R76, R85, R86,
R111). -/

namespace Sys2Proof.Machine

/-- WRITE_RULE (R74, R75). -/
def State.writeRule (s : State) (p : List Byte) : State × Answer :=
  match boundedAt 16 p 0 with
  | none => (s, .badField 1)
  | some k =>
    match Rule.ofPayload p with
    | .error n => (s, .badField n)
    | .ok r => ({ s with rules := s.rules.set k r }, ⟨.ok, ruleBytes k r⟩)

/-- WRITE_RULE (R74, R75). -/
def execWriteRule (s : State) : Host.Outcome State Fault Refusal :=
  .next (s.serve 0x40 20 fun p t => t.writeRule p)

/-- READ_RULE (R76). -/
def State.readRule (s : State) (p : List Byte) : State × Answer :=
  match boundedAt 16 p 0 with
  | none => (s, .badField 1)
  | some k => (s, ⟨.ok, ruleBytes k s.rules[k]⟩)

/-- READ_RULE (R76). -/
def execReadRule (s : State) : Host.Outcome State Fault Refusal :=
  .next (s.serve 0x41 1 fun p t => t.readRule p)

/-- The field number of a WRITE_GROUP whose group and enabled value are both out of range: R85 gives no order of checks, so
it is the group's, 1, or the enabled value's, 2, by a free value (log entry 21). -/
def groupOrEnabledField : Nat := if Config.writeGroupReportsGroup then 1 else 2

/-- WRITE_GROUP (R85). -/
def State.writeGroup (s : State) (p : List Byte) : State × Answer :=
  match boundedAt 16 p 0, yesNo (byteAt p 1) with
  | none, none => (s, .badField groupOrEnabledField)
  | none, some _ => (s, .badField 1)
  | some _, none => (s, .badField 2)
  | some g, some enabled =>
    let r : Group := { s.groups[g] with enabled := enabled, mask := maskAt p 2 }
    ({ s with groups := s.groups.set g r }, ⟨.ok, groupBytes g r⟩)

/-- WRITE_GROUP (R85). -/
def execWriteGroup (s : State) : Host.Outcome State Fault Refusal :=
  .next (s.serve 0x42 3 fun p t => t.writeGroup p)

/-- READ_GROUP (R86). -/
def State.readGroup (s : State) (p : List Byte) : State × Answer :=
  match boundedAt 16 p 0 with
  | none => (s, .badField 1)
  | some g => (s, ⟨.ok, groupBytes g s.groups[g]⟩)

/-- READ_GROUP (R86). -/
def execReadGroup (s : State) : Host.Outcome State Fault Refusal :=
  .next (s.serve 0x43 1 fun p t => t.readGroup p)

/-- READ_CLAIM (R111). -/
def State.readClaim (s : State) (p : List Byte) : State × Answer :=
  match boundedAt 8 p 0 with
  | none => (s, .badField 1)
  | some k => (s, ⟨.ok, claimBytes k s.slots[k]⟩)

/-- READ_CLAIM (R111). -/
def execReadClaim (s : State) : Host.Outcome State Fault Refusal :=
  .next (s.serve 0x50 1 fun p t => t.readClaim p)

end Sys2Proof.Machine
end

