-- ==== Sys2Proof/Machine/AgingFamily.lean ====
section
/-! DEFINITION. The events of time and the steps of the sweep (chapters 5 and 6: R37, R91, R109, R113 to R122). -/

namespace Sys2Proof.Machine

/-- MILLISECOND: the millisecond in progress completes (R113). -/
def execMillisecond (s : State) : Host.Outcome State Fault Refusal :=
  .next (if s.phase = .operating then s.completeMillisecond else s)

/-- The due expiries when slot k has run out too: those of earlier milliseconds as they stand, then those of the
millisecond completed last in ascending slot order, k among them (R58). -/
def State.dueWith (s : State) (k : SlotNo) : List SlotNo :=
  s.due.filter (fun j => j != k && !s.ranOut.contains j)
    ++ slotsWhere fun j => j == k || (s.due.contains j && s.ranOut.contains j)

/-- The window of an OFFERED slot reaches 0 in the millisecond completed last, and its expiry becomes due (R58, R91). -/
def State.runOutWindow (s : State) (k : SlotNo) : State :=
  match s.slots[k] with
  | none => s
  | some c =>
    if c.phase = .offered ∧ c.window ≠ 0 then
      { (s.withSlot k (some { c with window := 0 })).withDue (s.dueWith k) with
        ranOut := slotsWhere fun j => j == k || s.ranOut.contains j }
    else s

/-- OFFER_WINDOW_RUN_OUT of slot k (R91; log entry 11). -/
def execOfferWindowRunOut (k : SlotNo) (s : State) : Host.Outcome State Fault Refusal := .next (s.runOutWindow k)

/-- CLAIM_EXPIRY: a grant to TIMER of the oldest due expiry withdraws the claim of its slot (R109). -/
def execClaimExpiry (s : State) : Host.Outcome State Fault Refusal :=
  .next (match s.granted with
    | some (.expiry k) => (s.pointTo .timer).withdraw k
    | _ => s)

/-- AGING_TICK: the tick counter completes and starts again from 0, and one tick is delivered (R113, R114; log entry
11). -/
def execAgingTick (s : State) : Host.Outcome State Fault Refusal :=
  .next (if s.phase = .operating then State.deliverTick { s with aging := Aging.reset } else s)

/-- The hold-list step of a sweep (R37, R117). -/
def State.holdListStep (s : State) : State :=
  let t := s.withPool s.pool.countDown
  t.withEngine { t.engine with sweepNext := .visit 0 }

/-- HOLD_LIST_STEP: a grant to TIMER of the first step of a sweep (R117). -/
def execHoldListStep (s : State) : Host.Outcome State Fault Refusal :=
  .next (match s.granted with
    | some (.sweepStep .holdList) => (s.pointTo .timer).holdListStep
    | _ => s)

/-- Whether the head of the hold list reaches 0, or stands at 0, in a hold-list step. -/
def Pool.headExpires (p : Pool) : Bool := (p.hold.head?.map fun e => decide (e.ticks ≤ 1)).getD false

/-- HOLD_ENTRY_EXPIRY: the hold-list step in which the head entry's ticks remaining reach 0 (R37; log entry 14). -/
def execHoldEntryExpiry (s : State) : Host.Outcome State Fault Refusal :=
  .next (match s.granted with
    | some (.sweepStep .holdList) => if s.pool.headExpires then (s.pointTo .timer).holdListStep else s
    | _ => s)

/-- The PROBE of a record goes on its segment as it stands at the visit (R122). -/
def State.probe (s : State) (i : RecNo) : State :=
  s.placeForRecord s.records[i] (.probe (s.records[i].id.getD 0) (s.records[i].address.getD 0))

/-- A visit takes one from ticks left (R118, R119). -/
def Record.tickDown (r : Record) : Record := { r with ticks := r.ticks - 1 }

/-- The lease of an ACTIVE record has run out at its visit (R118). -/
def State.leaseRunOut (s : State) (i : RecNo) : State :=
  (s.changeRecord i { s.records[i].notify .stale with state := .stale, ticks := s.config.staleWindow }).probe i

/-- A visit of the record of an index (R118 to R121). -/
def State.visitRecord (s : State) (i : RecNo) : State :=
  match s.records[i].state with
  | .active => if s.records[i].ticks ≤ 1 then s.leaseRunOut i else s.changeRecord i s.records[i].tickDown
  | .stale =>
    if s.records[i].ticks ≤ 1 then s.endBinding i .expired else (s.changeRecord i s.records[i].tickDown).probe i
  | _ => s

/-- The end of a sweep (R121). -/
def State.endSweep (s : State) : State :=
  let t := s.withEngine { s.engine with sweeping := false, sweepNext := .holdList }
  if t.flushWaiting then t else t.sweepFromOwed

/-- A sweep visit: the record, and the step that follows it (R121). -/
def State.sweepVisit (s : State) (i : RecNo) : State :=
  let t := (s.pointTo .timer).visitRecord i
  if i = 255 then t.endSweep else t.withEngine { t.engine with sweepNext := .visit (i + 1) }

/-- SWEEP_VISIT: a grant to TIMER of the visit that a sweep names next (R118 to R122). -/
def execSweepVisit (s : State) : Host.Outcome State Fault Refusal :=
  .next (match s.granted with
    | some (.sweepStep (.visit i)) => s.sweepVisit i
    | _ => s)

/-- Whether a record in a state has its ticks left reach 0 at a visit. -/
def Record.runsOutIn (r : Record) (st : RecState) : Bool := r.state == st && decide (r.ticks ≤ 1)

/-- LEASE_RUN_OUT: the visit of an ACTIVE record whose ticks left reach 0 (R118; log entry 14). -/
def execLeaseRunOut (s : State) : Host.Outcome State Fault Refusal :=
  .next (match s.granted with
    | some (.sweepStep (.visit i)) => if s.records[i].runsOutIn .active then s.sweepVisit i else s
    | _ => s)

/-- STALE_WINDOW_RUN_OUT: the visit of a STALE record whose ticks left reach 0 (R120; log entry 14). -/
def execStaleWindowRunOut (s : State) : Host.Outcome State Fault Refusal :=
  .next (match s.granted with
    | some (.sweepStep (.visit i)) => if s.records[i].runsOutIn .stale then s.sweepVisit i else s
    | _ => s)

end Sys2Proof.Machine
end

