-- ==== Sys2Proof/Machine/BindingFrames.lean ====
section
/-! DEFINITION. HEARTBEAT, RELEASE and the three RESOLVE requests, with the source-binding check and visibility
(chapters 6 and 7, R125 to R141). -/

namespace Sys2Proof.Machine

/-! ### The source-binding check (R133) -/

/-- The live record on segment n to which an address is BOUND (R125, R133). -/
def State.boundLive (s : State) (n : SegNo) (a : Address) : Option RecNo :=
  match s.pool.placeOf a with
  | .bound i => if s.records[i].live = true ∧ s.records[i].segment = some n then some i else none
  | _ => none

/-- The source-binding check of a frame from source a on segment n with a module ID (R133). -/
def State.sourceBound (s : State) (n : SegNo) (a : Address) (id : ModuleId) : Bool :=
  (s.boundLive n a).any fun i => s.records[i].id == some id

/-! ### HEARTBEAT (R125 to R128) -/

/-- A HEARTBEAT taken in RUNNING (R125). -/
def State.heartbeatRunning (s : State) (n : SegNo) (a : Address) (id : ModuleId) : State :=
  match s.boundLive n a with
  | none => s.place n a (.revoke id a)
  | some i =>
    if s.records[i].id = some id then s.changeRecord i s.records[i].refresh
    else (s.changeRecord i s.records[i].charge).replyOr s n a (.revoke id a)

/-- A taken HEARTBEAT: discarded whole in HALTED and in FLUSHING (R125). -/
def State.heartbeatTaken (s : State) (n : SegNo) (a : Address) (id : ModuleId) : State :=
  match s.engine.mode with
  | .halted => s
  | .flushing => s
  | .running => s.heartbeatRunning n a id

/-- HEARTBEAT on segment n (R125 to R128). -/
def execHeartbeat (n : SegNo) (s : State) : Host.Outcome State Fault Refusal :=
  .next (s.onFrame n fun source m t =>
    match m with
    | .heartbeat id => some (t.heartbeatTaken n source id)
    | _ => none)

/-! ### RELEASE (R129, R130) -/

/-- A RELEASE taken in RUNNING (R129). -/
def State.releaseRunning (s : State) (n : SegNo) (a : Address) (id : ModuleId) : State :=
  match s.boundLive n a with
  | none => s.place n a (.revoke id a)
  | some i => if s.records[i].id = some id then s.endBinding i .released else s

/-- A taken RELEASE: discarded whole in HALTED and in FLUSHING (R129). -/
def State.releaseTaken (s : State) (n : SegNo) (a : Address) (id : ModuleId) : State :=
  match s.engine.mode with
  | .halted => s
  | .flushing => s
  | .running => s.releaseRunning n a id

/-- RELEASE on segment n (R129, R130). -/
def execRelease (n : SegNo) (s : State) : Host.Outcome State Fault Refusal :=
  .next (s.onFrame n fun source m t =>
    match m with
    | .release id => some (t.releaseTaken n source id)
    | _ => none)

/-! ### The questions (R136 to R141) -/

/-- A live record whose segment is in the visibility mask of segment n (R136). -/
def State.seen (s : State) (n : SegNo) (r : Record) : Bool :=
  r.live && r.segment.any fun m => s.policy[n].visible.getLsbD m.val

/-- The result of RESOLVE_ID (R138). -/
def State.resolveById (s : State) (n : SegNo) (target : ModuleId) : Result :=
  match s.lookup target with
  | some i => if s.seen n s.records[i] then .address (s.records[i].address.getD 0) else .unknown
  | none => .unknown

/-- The result of RESOLVE_ADDRESS (R139). -/
def State.resolveByAddress (s : State) (n : SegNo) (target : Address) : Result :=
  match s.pool.placeOf target with
  | .bound i => if s.seen n s.records[i] then .id (s.records[i].id.getD 0) else .unknown
  | _ => .unknown

/-- An address joins a list in ascending order. -/
def insertAscending (a : Address) : List Address → List Address
  | [] => [a]
  | b :: rest => if a ≤ b then a :: b :: rest else b :: insertAscending a rest

/-- The address of a record that is a candidate of a group reply (R141). -/
def State.candidate (s : State) (n : SegNo) (g : GroupNo) (start : Address) (r : Record) : Option Address :=
  if s.seen n r = true ∧ r.groups.getLsbD g.val = true then r.address.filter fun a => decide (start < a) else none

/-- The candidates' addresses in ascending order (R141). -/
def State.candidates (s : State) (n : SegNo) (g : GroupNo) (start : Address) : List Address :=
  (s.records.toList.filterMap (s.candidate n g start)).foldr insertAscending []

/-- The result of RESOLVE_GROUP (R140, R141). -/
def State.resolveByGroup (s : State) (n : SegNo) (g : Byte) (start : Address) : Result :=
  if h : g.toNat < 16 then
    if s.groups[g.toNat].enabled = true ∧ s.groups[g.toNat].mask.getLsbD n.val = true then
      let all := s.candidates n ⟨g.toNat, h⟩ start
      .group (all.take Config.maxGroupReply) (decide (Config.maxGroupReply < all.length))
    else .unknown
  else .unknown

/-- The result of a question asked on segment n. -/
def State.resolve (s : State) (n : SegNo) : Question → Result
  | .byId target => s.resolveById n target
  | .byAddress target => s.resolveByAddress n target
  | .byGroup g start => s.resolveByGroup n g start

/-- A taken RESOLVE frame, in every mode: one REPLY, or the REVOKE of a failed check (R132, R134, R137). -/
def State.resolveTaken (s : State) (n : SegNo) (a : Address) (requester : ModuleId) (q : Question) : State :=
  if s.sourceBound n a requester then s.place n a (.reply requester q (s.resolve n q))
  else s.place n a (.revoke requester a)

/-- RESOLVE_ID on segment n (R138). -/
def execResolveId (n : SegNo) (s : State) : Host.Outcome State Fault Refusal :=
  .next (s.onFrame n fun source m t =>
    match m with
    | .resolve requester (.byId target) => some (t.resolveTaken n source requester (.byId target))
    | _ => none)

/-- RESOLVE_ADDRESS on segment n (R139). -/
def execResolveAddress (n : SegNo) (s : State) : Host.Outcome State Fault Refusal :=
  .next (s.onFrame n fun source m t =>
    match m with
    | .resolve requester (.byAddress target) => some (t.resolveTaken n source requester (.byAddress target))
    | _ => none)

/-- RESOLVE_GROUP on segment n (R140, R141). -/
def execResolveGroup (n : SegNo) (s : State) : Host.Outcome State Fault Refusal :=
  .next (s.onFrame n fun source m t =>
    match m with
    | .resolve requester (.byGroup g start) => some (t.resolveTaken n source requester (.byGroup g start))
    | _ => none)

end Sys2Proof.Machine
end

