-- ==== Sys2Proof/Machine/ClaimFrames.lean ====
section
/-! DEFINITION. ANNOUNCE, ACCEPT and DECLINE (chapter 5, R97 to R108), with the evaluation of admission rules (chapter 4,
R77 to R81). -/

namespace Sys2Proof.Machine

/-! ### Evaluation (R77 to R80) -/

/-- Whether a rule matches an announce of an ID on a segment: valid, the segment in its mask, and the leading bits equal
(R77). -/
def Rule.matchesId (r : Rule) (n : SegNo) (id : ModuleId) : Bool :=
  r.valid && r.segments.getLsbD n.val && ((id ^^^ r.leadValue) >>> (64 - r.leadLength.toNat) == 0)

/-- The terms of an admission decision (R80). -/
structure Terms where
  low : Address
  high : Address
  cls : Byte
  groups : GroupSet
  lease : Byte
  rule : Option RuleNo
  deriving DecidableEq, Repr

/-- The slot of the first rule that matches (R77). -/
def State.firstMatch (s : State) (n : SegNo) (id : ModuleId) : Option RuleNo :=
  (List.finRange 16).find? fun k => s.rules[k].matchesId n id

/-- The terms of a decision by the rule in slot k (R80). -/
def Rule.terms (r : Rule) (k : RuleNo) (cls : Byte) : Terms :=
  { low := r.low, high := r.high, cls := r.clsOverride.getD cls, groups := r.groups, lease := r.lease, rule := some k }

/-- The terms of a decision by the default policy (R80). -/
def Params.terms (c : Params) (cls : Byte) : Terms :=
  { low := c.rangeLow, high := c.rangeHigh, cls := cls, groups := c.defaultGroups, lease := c.defaultLease,
    rule := none }

/-- Evaluation of a new ID: a refusal or an admission decision (R78, R79). -/
def State.evaluate (s : State) (n : SegNo) (id : ModuleId) (cls : Byte) : Except Refuse Terms :=
  if s.policy[n].learning = false then .error .notAdmitted
  else match s.firstMatch n id with
    | some k =>
      match s.rules[k].action with
      | .deny => .error .denied
      | .permit => .ok (s.rules[k].terms k cls)
    | none =>
      match s.config.defaultPolicy with
      | .permit => .ok (s.config.terms cls)
      | .deny => .error .notAdmitted

/-! ### A new ID (R102, R103) -/

/-- The PENDING record of a new claim (R11, R103). -/
def Terms.pendingRecord (d : Terms) (id : ModuleId) (a : Address) (n : SegNo) (k : SlotNo) : Record :=
  { Record.empty with
    kind := .dynamic, state := .pending, id := some id, address := some a, segment := some n, cls := some d.cls,
    lease := some d.lease, rule := d.rule, slot := some k }

/-- A claim is created, all but the queuing of its OFFER (R103). -/
def State.createClaim (s : State) (d : Terms) (id : ModuleId) (n : SegNo) (source : Address) (k : SlotNo) (i : RecNo)
    (a : Address) : State :=
  let s1 := s.placeRecord i (d.pendingRecord id a n k)
  let s2 := s1.withPool (s1.pool.take a (.offered i))
  let s3 := s2.withSlot k (some
    { phase := .sending, record := i, id := id, segment := n, address := a, nonce := s.engine.nonce, repeats := 0,
      declines := 0, window := s.fullWindow, low := d.low, high := d.high, groups := d.groups, replyTo := source })
  s3.drawNonce

/-- An ANNOUNCE for an ID that no record holds: evaluation, the checks of R102 in order, and the claim of R103. -/
def State.announceNew (s : State) (n : SegNo) (source : Address) (id : ModuleId) (cls : Byte) (preferred : Address) :
    State :=
  match s.evaluate n id cls with
  | .error why => s.place n source (.refuse id why 0)
  | .ok d =>
    match s.firstFreeSlot with
    | none => s.place n source (.refuse id .claimsFull s.config.retryHint)
    | some k =>
      match s.placementWay id with
      | none => s.place n source (.refuse id .tableFull 0)
      | some i =>
        match s.pool.allocateFirst d.low d.high id preferred with
        | none => s.place n source (.refuse id .noAddress 0)
        | some a => (s.createClaim d id n source k i a).replyOr s n source (.offer id s.engine.nonce a)

/-! ### A known ID (R98 to R101) -/

/-- A repeat announce puts the slot's OFFER on the arrival segment again (R101). -/
def State.repeatOffer (s : State) (k : SlotNo) (c : Claim) (n : SegNo) (source : Address) : State :=
  let s1 := (s.removeOffers c.nonce).withSlot k (some
    { c with phase := .sending, repeats := c.repeats + 1, segment := n, replyTo := source, window := s.fullWindow })
  let s2 := s1.cancelExpiry k
  s2.changeRecord c.record { s2.records[c.record] with segment := some n }

/-- An ANNOUNCE for a PENDING record: the OFFER again, or the end of the claim at the fourth repeat (R101). -/
def State.announcePending (s : State) (i : RecNo) (n : SegNo) (source : Address) (id : ModuleId) : State :=
  match s.records[i].slot with
  | none => s
  | some k =>
    match s.slots[k] with
    | none => s
    | some c =>
      if c.repeats < Config.repeatLimit then
        (s.repeatOffer k c n source).replyOr s n source (.offer c.id c.nonce c.address)
      else (s.withdraw k).replyOr s n source (.refuse id .offerLimit 0)

/-- CONFIRM with a record's address (R99, R105, R106). -/
def Record.confirmation (r : Record) (id : ModuleId) : Message := .confirm id (r.address.getD 0)

/-- An ANNOUNCE for a live record on the arrival segment (R99). -/
def State.announceReturn (s : State) (i : RecNo) (n : SegNo) (source : Address) (id : ModuleId) : State :=
  (s.changeRecord i (s.records[i].refresh.notify .returned)).replyOr s n source (s.records[i].confirmation id)

/-- A STATIC DORMANT record's module is received on a segment (R99, R106). -/
def State.receiveStatic (s : State) (i : RecNo) (n : SegNo) (source : Address) (id : ModuleId) : State :=
  (s.changeRecord i { s.records[i].refresh.notify .returned with segment := some n }).replyOr s n source
    (s.records[i].confirmation id)

/-- An ANNOUNCE for a live record on another segment (R100). -/
def State.announceMove (s : State) (i : RecNo) (n : SegNo) (source : Address) (id : ModuleId) : State :=
  if s.policy[n].acceptMoves then
    (s.changeRecord i { s.records[i].refresh.notify .moved with segment := some n }).replyOr s n source
      (s.records[i].confirmation id)
  else (s.changeRecord i s.records[i].charge).replyOr s n source (.refuse id .boundElsewhere 0)

/-- An ANNOUNCE for a DENIED record (R98). -/
def State.announceDenied (s : State) (i : RecNo) (n : SegNo) (source : Address) (id : ModuleId) : State :=
  (s.changeRecord i (s.records[i].notify .deniedSeen)).replyOr s n source (.refuse id .denied 0)

/-- An ANNOUNCE taken in RUNNING: the lookup selects the case (R97). -/
def State.announceRunning (s : State) (n : SegNo) (source : Address) (id : ModuleId) (cls : Byte)
    (preferred : Address) : State :=
  match s.lookup id with
  | none => s.announceNew n source id cls preferred
  | some i =>
    let r := s.records[i]
    if r.kind = .denied then s.announceDenied i n source id
    else if r.state = .pending then s.announcePending i n source id
    else if r.state = .dormant then s.receiveStatic i n source id
    else if r.segment = some n then s.announceReturn i n source id
    else s.announceMove i n source id

/-- A taken ANNOUNCE (R97). -/
def State.announceTaken (s : State) (n : SegNo) (source : Address) (id : ModuleId) (cls : Byte) (preferred : Address) :
    State :=
  match s.engine.mode with
  | .halted => s.place n source (.refuse id .halted s.config.retryHint)
  | .flushing => s.place n source (.refuse id .busy s.config.retryHint)
  | .running => s.announceRunning n source id cls preferred

/-- ANNOUNCE on segment n (R97 to R103). -/
def execAnnounce (n : SegNo) (s : State) : Host.Outcome State Fault Refusal :=
  .next (s.onFrame n fun source m t =>
    match m with
    | .announce id cls preferred => some (t.announceTaken n source id cls preferred)
    | _ => none)

/-! ### ACCEPT (R104 to R106) -/

/-- Commit, all but the queuing of its CONFIRM (R105). -/
def State.commit (s : State) (k : SlotNo) (c : Claim) (n : SegNo) : State :=
  let s1 := (s.removeOffers c.nonce).freeSlot k
  let r := s1.records[c.record]
  let s2 := s1.changeRecord c.record
    { r.refresh.notify .learned with kind := .dynamic, segment := some n, groups := c.groups, slot := none }
  s2.withPool (s2.pool.take c.address (.bound c.record))

/-- An ACCEPT that matches no slot is answered from the record that holds its ID (R106). -/
def State.acceptUnmatched (s : State) (n : SegNo) (source : Address) (id : ModuleId) (a : Address) : State :=
  match s.lookup id with
  | none => s.place n source (.refuse id .staleOffer 0)
  | some i =>
    let r := s.records[i]
    if r.live = true ∧ r.address = some a then s.place n source (.confirm id a)
    else if r.kind = .static ∧ r.state = .dormant ∧ r.address = some a then s.receiveStatic i n source id
    else s.place n source (.refuse id .staleOffer 0)

/-- An ACCEPT taken in RUNNING: a slot that holds the same ID, nonce and offered address commits (R104). -/
def State.acceptRunning (s : State) (n : SegNo) (source : Address) (id : ModuleId) (nonce : BitVec 16) (a : Address) :
    State :=
  match s.findClaim fun c => c.id == id && c.nonce == nonce && c.address == a with
  | some (k, c) => (s.commit k c n).replyOr s n source (.confirm id a)
  | none => s.acceptUnmatched n source id a

/-- A taken ACCEPT (R104). -/
def State.acceptTaken (s : State) (n : SegNo) (source : Address) (id : ModuleId) (nonce : BitVec 16) (a : Address) :
    State :=
  match s.engine.mode with
  | .halted => s.place n source (.refuse id .halted s.config.retryHint)
  | .flushing => s.place n source (.refuse id .busy s.config.retryHint)
  | .running => s.acceptRunning n source id nonce a

/-- ACCEPT on segment n (R104 to R106). -/
def execAccept (n : SegNo) (s : State) : Host.Outcome State Fault Refusal :=
  .next (s.onFrame n fun source m t =>
    match m with
    | .accept id nonce a => some (t.acceptTaken n source id nonce a)
    | _ => none)

/-! ### DECLINE (R107, R108) -/

/-- The declined address enters the hold list with no former ID (R44, R107). -/
def State.holdDeclined (s : State) (c : Claim) : State :=
  s.withPool (s.pool.toHold s.config.holdPeriod c.address none)

/-- The end of a claim at its decline limit, or on a re-offer that finds no address (R107, R108). -/
def State.endDeclined (s : State) (k : SlotNo) (c : Claim) : State :=
  ((s.removeOffers c.nonce).freeSlot k).emptyRecord c.record

/-- A re-offer of an address, all but the queuing of its OFFER (R108). -/
def State.reoffer (s : State) (k : SlotNo) (c : Claim) (a : Address) (n : SegNo) (source : Address) : State :=
  let s1 := (s.removeOffers c.nonce).withSlot k (some
    { c with
      phase := .sending, address := a, nonce := s.engine.nonce, declines := c.declines + 1, segment := n,
      replyTo := source, window := s.fullWindow })
  let s2 := s1.cancelExpiry k
  let s3 := s2.withPool (s2.pool.take a (.offered c.record))
  (s3.changeRecord c.record { s3.records[c.record] with address := some a, segment := some n }).drawNonce

/-- The address a matching DECLINE is re-offered, found after the declined address has been held: none at the decline
limit (R107, R108). -/
def State.reofferAddress (s : State) (c : Claim) : Option Address :=
  if c.declines < Config.declineLimit then s.pool.allocateAgain c.low c.high c.address else none

/-- A DECLINE that matches a slot (R107, R108), subject to R96. -/
def State.declineMatched (s : State) (n : SegNo) (source : Address) (id : ModuleId) (k : SlotNo) (c : Claim) : State :=
  let h := s.holdDeclined c
  match h.reofferAddress c with
  | some a => (h.reoffer k c a n source).replyOr s n source (.offer c.id s.engine.nonce a)
  | none => (h.endDeclined k c).replyOr s n source (.refuse id .noAddress 0)

/-- A taken DECLINE: it is discarded when it matches no slot, as always in HALTED and FLUSHING (R59, R107). -/
def State.declineTaken (s : State) (n : SegNo) (source : Address) (id : ModuleId) (nonce : BitVec 16) : State :=
  match s.engine.mode with
  | .halted => s
  | .flushing => s
  | .running =>
    match s.findClaim fun c => c.id == id && c.nonce == nonce with
    | some (k, c) => s.declineMatched n source id k c
    | none => s

/-- DECLINE on segment n (R107, R108). -/
def execDecline (n : SegNo) (s : State) : Host.Outcome State Fault Refusal :=
  .next (s.onFrame n fun source m t =>
    match m with
    | .decline id nonce => some (t.declineTaken n source id nonce)
    | _ => none)

end Sys2Proof.Machine
end

