-- ==== Sys2Proof/Machine/EngineCommands.lean ====
section
/-! DEFINITION. The modes, the flush and the configuration (chapter 3, R59 to R68). -/

namespace Sys2Proof.Machine

/-- SET_MODE RUN (R60). -/
def State.setModeRun (s : State) : State × Answer :=
  match s.engine.mode with
  | .halted => (s.withEngine { s.engine with mode := .running }, ⟨.ok, [Mode.running.code, 0x00]⟩)
  | .running => (s, ⟨.ok, [Mode.running.code, 0x00]⟩)
  | .flushing => (s, ⟨.ok, [Mode.flushing.code, 0x00]⟩)

/-- The Table Engine as SET_MODE HALT leaves it: the sweep abandoned, no tick owed, HALTED (R61, R124). -/
def Engine.halt (e : Engine) : Engine :=
  { e with mode := .halted, sweeping := false, sweepNext := .holdList, owed := 0 }

/-- SET_MODE HALT (R61). -/
def State.setModeHalt (s : State) : State × Answer :=
  match s.engine.mode with
  | .running =>
    let t := s.withdrawAll
    (t.withEngine t.engine.halt, ⟨.ok, [Mode.halted.code, numByte s.busyClaims]⟩)
  | .halted => (s, ⟨.ok, [Mode.halted.code, 0x00]⟩)
  | .flushing => (s, ⟨.ok, [Mode.flushing.code, 0x00]⟩)

/-- SET_MODE on its argument: 01h RUN, 02h HALT, any other BAD_PARAMETER (R60, R189). -/
def State.setMode (s : State) (arg : Byte) : State × Answer :=
  if arg = 0x01 then s.setModeRun else if arg = 0x02 then s.setModeHalt else (s, .badField 1)

/-- The payload of the head request. -/
def State.headPayload (s : State) : List Byte :=
  match s.port.requests with
  | r :: _ => r.payload
  | [] => []

/-- SET_MODE_RUN: a SET_MODE request that does not name HALT is taken (R60). -/
def execSetModeRun (s : State) : Host.Outcome State Fault Refusal :=
  .next (if s.headPayload = [0x02] then s else s.serve 0x30 1 fun p t => t.setMode (byteAt p 0))

/-- SET_MODE_HALT: a SET_MODE request that does not name RUN is taken (R61). -/
def execSetModeHalt (s : State) : Host.Outcome State Fault Refusal :=
  .next (if s.headPayload = [0x01] then s else s.serve 0x30 1 fun p t => t.setMode (byteAt p 0))

/-- The head request is marked taken (R56). -/
def Port.markTaken (p : Port) : Port :=
  match p.requests with
  | [] => p
  | r :: rest => { p with requests := { r with taken := true } :: rest }

/-- The first step of a flush (R62). -/
def State.startFlush (s : State) : State :=
  let t := s.withdrawAll
  { t with
    engine := { t.engine with mode := .flushing, flushing := true, flushNext := 0, emptied := 0 }
    port := t.port.markTaken }

/-- FLUSH_DYNAMIC: WRONG_MODE in HALTED; in RUNNING it starts the flush and stays at the head, marked taken (R62). -/
def execFlushDynamic (s : State) : Host.Outcome State Fault Refusal :=
  .next (match s.granted with
    | some (.request r) =>
      if r.command = flushCode then
        if r.payload.length ≠ 0 then (s.pointTo .host).answer r (.badField 0)
        else match s.engine.mode with
          | .halted => (s.pointTo .host).answer r (.bare .wrongMode)
          | .running => (s.pointTo .host).startFlush
          | .flushing => s
      else s
    | _ => s)

/-- A flush step on its record: a live DYNAMIC record is emptied, and its address goes to the tail of the free list
(R63). -/
def State.flushRecord (s : State) (i : RecNo) : State :=
  if s.records[i].kind = .dynamic ∧ s.records[i].live = true then
    let t := (s.freeAddressOf s.records[i]).emptyRecord i
    t.withEngine { t.engine with emptied := t.engine.emptied + 1 }
  else s

/-- The response that ends a flush is placed and its request leaves the queue (R64, step 5). -/
def State.answerFlush (s : State) : State :=
  match s.port.requests with
  | [] => s
  | r :: _ => s.answer r ⟨.ok, bytes16 (BitVec.ofNat 16 s.engine.emptied)⟩

/-- The REANNOUNCE of a flush's end, in ascending segment order (R64, step 1). -/
def State.broadcastReannounce (s : State) : State :=
  ([0, 1, 2, 3] : List SegNo).foldl (fun t n => t.place n Config.broadcast .reannounce) s

/-- The end of the flush (R64). -/
def State.endFlush (s : State) : State :=
  let t := s.broadcastReannounce
  (t.withEngine { t.engine with mode := .running, flushing := false, flushNext := 0 }).sweepFromOwed.answerFlush

/-- FLUSH_STEP: a grant to TIMER of the step of a flush in flight (R63, R64). -/
def execFlushStep (s : State) : Host.Outcome State Fault Refusal :=
  .next (match s.granted with
    | some (.flushStep i) =>
      let t := (s.pointTo .timer).flushRecord i
      if i = 255 then t.endFlush else t.withEngine { t.engine with flushNext := i + 1 }
    | _ => s)

/-- The configuration takes ten new values; a new REF_KHZ or TICK_PERIOD restarts the timebase (R66, R67, R113). -/
def State.reconfigure (s : State) (c : Params) : State :=
  { s with
    config := c
    aging := if c.refKhz = s.config.refKhz ∧ c.tickPeriod = s.config.tickPeriod then s.aging else Aging.reset }

/-- CONFIGURE: taken in HALTED, every value checked before any changes (R66). -/
def State.configure (s : State) (p : List Byte) : State × Answer :=
  if s.engine.mode = .halted then
    match Params.ofPayload p with
    | .error n => (s, .badField n)
    | .ok c => (s.reconfigure c, .bare .ok)
  else (s, .bare .wrongMode)

/-- CONFIGURE (R66, R67). -/
def execConfigure (s : State) : Host.Outcome State Fault Refusal :=
  .next (s.serve 0x32 13 fun p t => t.configure p)

/-- READ_CONFIG (R68). -/
def State.readConfig (s : State) : State × Answer := (s, ⟨.ok, s.config.bytes ++ s.engine.configBytes⟩)

/-- READ_CONFIG (R68). -/
def execReadConfig (s : State) : Host.Outcome State Fault Refusal :=
  .next (s.serve 0x33 0 fun _ t => t.readConfig)

end Sys2Proof.Machine
end

