-- ==== Sys2Proof/Machine/Notices.lean ====
section
/-! DEFINITION. FAULT_NOTICE, TRANSMIT_NOTICE and DROP_NOTICE (R57, R93, R94, R165). -/

namespace Sys2Proof.Machine

/-- The fault notice of segment n is removed and the claims of the segment withdrawn (R165). -/
def State.takeFaultNotice (s : State) (n : SegNo) : State :=
  ((s.pointTo (.seg n)).withSeg n { s.segs[n] with faultNotice := false }).withdrawSegment n

/-- FAULT_NOTICE of segment n (R57, R165). -/
def execFaultNotice (n : SegNo) (s : State) : Host.Outcome State Fault Refusal :=
  .next (match s.granted with
    | some (.faultNotice m) => if m = n then s.takeFaultNotice n else s
    | _ => s)

/-- The oldest transmit notice of segment n leaves its list (R161). -/
def State.takeNotice (s : State) (n : SegNo) : State :=
  (s.pointTo (.seg n)).withSeg n { s.segs[n] with notices := s.segs[n].notices.tail }

/-- A SENT notice: the slot of its nonce is OFFERED with its window at the full length, and no expiry of it is due
(R91, R93). Of two busy slots with that nonce the lower acts, the model's choice (log entry 22). -/
def State.noteSent (s : State) (nonce : BitVec 16) : State :=
  match s.findClaim fun c => c.nonce == nonce with
  | none => s
  | some (k, c) => (s.withSlot k (some { c with phase := .offered, window := s.fullWindow })).cancelExpiry k

/-- TRANSMIT_NOTICE of segment n (R93). -/
def execTransmitNotice (n : SegNo) (s : State) : Host.Outcome State Fault Refusal :=
  .next (match s.granted with
    | some (.notice m x) => if m = n ∧ x.sent = true then (s.takeNotice n).noteSent x.nonce else s
    | _ => s)

/-- Whether a controller holds a copy of a nonce, in its transmit queue or as a transmit notice (R94, R161). -/
def SegCtl.holdsCopy (c : SegCtl) (nonce : BitVec 16) : Bool :=
  (c.tx.any fun e => e.message.offerNonce == some nonce) || c.notices.any fun x => x.nonce == nonce

/-- A DROPPED notice from segment n withdraws the SENDING claim of its nonce on that segment when the controller holds no
other copy, and is otherwise discarded (R94). Of two busy slots with that nonce the lower is meant, the model's choice
(log entry 22). -/
def State.noteDropped (s : State) (n : SegNo) (nonce : BitVec 16) : State :=
  match s.findClaim fun c => c.nonce == nonce with
  | none => s
  | some (k, c) =>
    if c.phase = .sending ∧ c.segment = n ∧ s.segs[n].holdsCopy nonce = false then s.withdraw k else s

/-- DROP_NOTICE of segment n (R94). -/
def execDropNotice (n : SegNo) (s : State) : Host.Outcome State Fault Refusal :=
  .next (match s.granted with
    | some (.notice m x) => if m = n ∧ x.sent = false then (s.takeNotice n).noteDropped n x.nonce else s
    | _ => s)

end Sys2Proof.Machine
end

