-- ==== Sys2Proof/Machine/PoolCommands.lean ====
section
/-! DEFINITION. The host commands on addresses (chapter 2, R46 to R50). -/

namespace Sys2Proof.Machine

/-- RESERVE_ADDRESS(a) (R46). -/
def State.reserveAddress (s : State) (a : Address) : State × Answer :=
  match s.pool.placeOf a with
  | .invalid => (s, .bare .addressInvalid)
  | .free => (s.withPool (s.pool.take a .reserved), .bare .ok)
  | .held => (s.withPool (s.pool.take a .reserved), .bare .ok)
  | .reserved => (s, .bare .ok)
  | .offered i => (s, ⟨.addressInUse, [numByte i.val]⟩)
  | .bound i => (s, ⟨.addressInUse, [numByte i.val]⟩)

/-- RESERVE_ADDRESS (R46). -/
def execReserveAddress (s : State) : Host.Outcome State Fault Refusal :=
  .next (s.serve 0x20 1 fun p t => t.reserveAddress (byteAt p 0))

/-- FREE_RESERVATION(a) (R47). -/
def State.freeReservation (s : State) (a : Address) : State × Answer :=
  match s.pool.placeOf a with
  | .invalid => (s, .bare .addressInvalid)
  | .reserved => (s.withPool (s.pool.toTail a), .bare .ok)
  | place => (s, ⟨.wrongState, [place.code]⟩)

/-- FREE_RESERVATION (R47). -/
def execFreeReservation (s : State) : Host.Outcome State Fault Refusal :=
  .next (s.serve 0x21 1 fun p t => t.freeReservation (byteAt p 0))

/-- READ_ADDRESS(a) (R49). -/
def State.readAddress (s : State) (a : Address) : State × Answer :=
  (s, ⟨.ok, (s.pool.placeOf a).code :: s.pool.placeFields a (s.pool.placeOf a)⟩)

/-- READ_ADDRESS (R49). -/
def execReadAddress (s : State) : Host.Outcome State Fault Refusal :=
  .next (s.serve 0x22 1 fun p t => t.readAddress (byteAt p 0))

/-- READ_LIST(which, position): 00h FREE, 01h HOLD (R50, R189). -/
def State.readList (s : State) (which : Byte) (position : Nat) : State × Answer :=
  if which = 0x00 then
    match s.pool.free[position]? with
    | some a => (s, ⟨.ok, listEntryBytes s.pool.free.length a none 0⟩)
    | none => (s, ⟨.notFound, [numByte s.pool.free.length]⟩)
  else if which = 0x01 then
    match s.pool.hold[position]? with
    | some e => (s, ⟨.ok, listEntryBytes s.pool.hold.length e.address e.former e.ticks⟩)
    | none => (s, ⟨.notFound, [numByte s.pool.hold.length]⟩)
  else (s, .badField 1)

/-- READ_LIST (R50). -/
def execReadList (s : State) : Host.Outcome State Fault Refusal :=
  .next (s.serve 0x23 2 fun p t => t.readList (byteAt p 0) (byteAt p 1).toNat)

end Sys2Proof.Machine
end

