-- ==== Sys2Proof/Machine/LineCode.lean ====
section
/-! DEFINITION. The line coding of a segment frame (R186): bits, stuff bits and bytes. A data bit 0 is an active bit
time and a data bit 1 an idle one; true stands for data bit 1. The start bit comes before the bit times given here and
counts towards the first run. -/

namespace Sys2Proof.Machine

/-- The eight bits of a byte, most significant first. -/
def byteBits (b : Byte) : List Bool :=
  [b.getLsbD 7, b.getLsbD 6, b.getLsbD 5, b.getLsbD 4, b.getLsbD 3, b.getLsbD 2, b.getLsbD 1, b.getLsbD 0]

/-- The bits of a frame's bytes, in the order they are sent. -/
def frameBits (bs : List Byte) : List Bool := bs.flatMap byteBits

/-- The byte of eight bits, most significant first. -/
def bitsToByte (b7 b6 b5 b4 b3 b2 b1 b0 : Bool) : Byte :=
  BitVec.ofBool b7 ++ BitVec.ofBool b6 ++ BitVec.ofBool b5 ++ BitVec.ofBool b4 ++ BitVec.ofBool b3
    ++ BitVec.ofBool b2 ++ BitVec.ofBool b1 ++ BitVec.ofBool b0

/-- The whole bytes of a bit string; bits left over after the last whole byte are discarded (R186). -/
def wholeBytes : List Bool → List Byte
  | b7 :: b6 :: b5 :: b4 :: b3 :: b2 :: b1 :: b0 :: rest => bitsToByte b7 b6 b5 b4 b3 b2 b1 b0 :: wholeBytes rest
  | _ => []

/-- The level of a data bit. -/
def levelOf (bit : Bool) : Level := if bit then .idle else .active

/-- The length of the run that ends with a further bit time at level `l`, after a run of `n` at level `run`. -/
def runLength (run : Level) (n : Nat) (l : Level) : Nat := if l = run then n + 1 else 1

/-- The bit times that the sender drives for the bits given, after a run of `n` bit times at level `run`: after two idle
bit times in a row one active bit, after six active ones one idle bit (R186; after the last bit too, log entry 9). -/
def stuff (run : Level) (n : Nat) : List Bool → List Level
  | [] => []
  | bit :: rest =>
    if levelOf bit = .idle ∧ runLength run n .idle = 2 then .idle :: .active :: stuff .active 1 rest
    else if levelOf bit = .active ∧ runLength run n .active = 6 then .active :: .idle :: stuff .idle 1 rest
    else levelOf bit :: stuff (levelOf bit) (runLength run n (levelOf bit)) rest

/-- The coded bit times of a frame after its start bit. -/
def lineCode (bs : List Byte) : List Level := stuff .active 1 (frameBits bs)

/-- The data bits of the bit times given, after a run of `n` at level `run`, and whether there is a coding error: the bit
after two idle bit times is a stuff bit, or by being idle ends the frame; the bit after six active ones is a stuff bit, a
coding error when it is active (R186; the run after it, log entry 8). -/
def unstuff (run : Level) (n : Nat) : List Level → List Bool × Bool
  | [] => ([], false)
  | l :: rest =>
    if run = .idle ∧ n = 2 then
      match l with
      | .idle => ([], false)
      | .active => unstuff .active 1 rest
    else if run = .active ∧ n = 6 then
      match l with
      | .idle => unstuff .idle 1 rest
      | .active => ((unstuff .active 1 rest).1, true)
    else
      let r := unstuff l (runLength run n l) rest
      (decide (l = .idle) :: r.1, r.2)

/-- What the receiver makes of the coded bit times of a frame: its data bits and whether there is a coding error. -/
def lineDecode (line : List Level) : List Bool × Bool := unstuff .active 1 line

end Sys2Proof.Machine
end

