-- ==== Sys2Proof/Machine/Receiver.lean ====
section
/-! DEFINITION. The receiver, the filter and the line monitor (chapter 8, R152 to R155, R163, R164). -/

namespace Sys2Proof.Machine

/-- In RX_READY another station drives the line active: a frame begins, and the monitor measures (R152, R163). -/
def SegCtl.frameStart (c : SegCtl) : SegCtl :=
  if c.enabled = true ∧ c.receiver = .ready then { c with receiver := .receiving, monitor := .measuring } else c

/-- FRAME_START on segment n (R152). -/
def execFrameStart (n : SegNo) (s : State) : Host.Outcome State Fault Refusal :=
  .next (s.withSeg n s.segs[n].frameStart)

/-- In RX_GAP the line has been idle for 10 bit times: RX_READY, and the monitor's period has ended (R152, R163). -/
def SegCtl.startGap (c : SegCtl) : SegCtl :=
  if c.enabled = true ∧ c.receiver = .gap ∧ c.transmitter ≠ .sending then
    { c with receiver := .ready, monitor := .quiet }
  else c

/-- START_GAP on segment n (R152). -/
def execStartGap (n : SegNo) (s : State) : Host.Outcome State Fault Refusal :=
  .next (s.withSeg n s.segs[n].startGap)

/-- A frame that runs over 40 bytes is discarded with RX_ERROR, and the receiver waits for a start gap (R152, R153). -/
def SegCtl.overLength (c : SegCtl) : SegCtl := { c with receiver := .gap, rxError := true }

/-- FRAME_OVER_LENGTH on segment n: a 41st byte begins (R152). -/
def execFrameOverLength (n : SegNo) (s : State) : Host.Outcome State Fault Refusal :=
  .next (s.withSeg n
    (if s.segs[n].enabled = true ∧ s.segs[n].receiver = .receiving then s.segs[n].overLength else s.segs[n]))

/-- A frame that has passed the filter meets the receive queue: it enters, filling it drives HUSH, and a full queue
discards it with OVERFLOW (R155). -/
def SegCtl.offerFrame (c : SegCtl) (f : RxFrame) : SegCtl :=
  if Config.rxCapacity ≤ c.rx.length then { c with overflow := true }
  else if c.rx.length + 1 = Config.rxCapacity then { c with rx := c.rx ++ [f], state := .hushed }
  else { c with rx := c.rx ++ [f] }

/-- The filter on a frame's whole bytes (R153, R154). -/
def SegCtl.filterFrame (c : SegCtl) (bs : List Byte) (codingError : Bool) : SegCtl :=
  match integrity bs codingError with
  | .fragment => c
  | .bad => { c with rxError := true }
  | .good =>
    match contentCheck bs with
    | none => c
    | some f => c.offerFrame f

/-- In RX_RECEIVING the end gap completes the frame, which goes to the filter (R152, R153). -/
def SegCtl.frameComplete (c : SegCtl) (line : List Level) : SegCtl :=
  if c.enabled = true ∧ c.receiver = .receiving then
    if Config.maxFrame * 8 < (lineDecode line).1.length then { c.overLength with monitor := .quiet }
    else SegCtl.filterFrame { c with receiver := .ready, monitor := .quiet } (wholeBytes (lineDecode line).1)
      (lineDecode line).2
  else c

/-- FRAME_COMPLETE on segment n (R153 to R155, R186). -/
def execFrameComplete (n : SegNo) (line : List Level) (s : State) : Host.Outcome State Fault Refusal :=
  .next (s.withSeg n (s.segs[n].frameComplete line))

/-- In RX_GAP the line goes active before 10 idle bit times: the gap is waited for afresh, and the monitor measures
unless the transmitter is sending (R152, R163). -/
def SegCtl.activeInGap (c : SegCtl) : SegCtl :=
  if c.enabled = true ∧ c.receiver = .gap ∧ c.transmitter ≠ .sending then { c with monitor := .measuring } else c

/-- DATA_LINE_ACTIVE_IN_GAP on segment n (R152, R163). -/
def execDataLineActiveInGap (n : SegNo) (s : State) : Host.Outcome State Fault Refusal :=
  .next (s.withSeg n s.segs[n].activeInGap)

/-- LINE_STUCK on segment n: a measured active period exceeds 64 bit times, and the segment enters FAULT (R163,
R164). -/
def execLineStuck (n : SegNo) (s : State) : Host.Outcome State Fault Refusal :=
  .next (if s.segs[n].enabled = true ∧ s.segs[n].monitor = .measuring then s.enterFault n else s)

end Sys2Proof.Machine
end

