-- ==== Sys2Proof/Machine/RecordCommands.lean ====
section
/-! DEFINITION. BAD_COMMAND and the host commands on records (chapter 1, R19 to R29, R174). -/

namespace Sys2Proof.Machine

/-- The COMMAND codes of the catalogue (R189). -/
def commandCodes : List Byte :=
  [0x10, 0x11, 0x12, 0x13, 0x14, 0x15, 0x16, 0x17, 0x20, 0x21, 0x22, 0x23, 0x30, 0x31, 0x32, 0x33, 0x40, 0x41, 0x42,
   0x43, 0x50, 0x60, 0x61]

/-- A taken request whose COMMAND names no host command is answered BAD_COMMAND (R174). -/
def execBadCommand (s : State) : Host.Outcome State Fault Refusal :=
  .next (match s.granted with
    | some (.request r) =>
      if commandCodes.contains r.command then s else (s.pointTo .host).answer r (.bare .badCommand)
    | _ => s)

/-- READ_RECORD(index) (R19). -/
def State.readRecord (s : State) (i : RecNo) : State × Answer := (s, .record .ok i s.records[i])

/-- READ_RECORD (R19). -/
def execReadRecord (s : State) : Host.Outcome State Fault Refusal :=
  .next (s.serve 0x10 1 fun p t => t.readRecord (indexAt p 0))

/-- FIND_ID(id) (R20). -/
def State.findId (s : State) (id : ModuleId) : State × Answer :=
  if invalidId id then (s, .bare .idInvalid)
  else match s.lookup id with
    | some i => (s, .record .ok i s.records[i])
    | none => (s, .bare .notFound)

/-- FIND_ID (R20). -/
def execFindId (s : State) : Host.Outcome State Fault Refusal :=
  .next (s.serve 0x11 8 fun p t => t.findId (idAt p 0))

/-- FIND_ADDRESS(a) (R21). -/
def State.findAddress (s : State) (a : Address) : State × Answer :=
  match s.pool.placeOf a with
  | .offered i => (s, .record .ok i s.records[i])
  | .bound i => (s, .record .ok i s.records[i])
  | place => (s, ⟨.notFound, [place.code]⟩)

/-- FIND_ADDRESS (R21). -/
def execFindAddress (s : State) : Host.Outcome State Fault Refusal :=
  .next (s.serve 0x12 1 fun p t => t.findAddress (byteAt p 0))

/-- The record that holds an address that cannot be bound: one that is OFFERED to a claim other than that of `own`, or
BOUND (R22, check 5). -/
def Pool.inUse (p : Pool) (a : Address) (own : Option RecNo) : Option RecNo :=
  match p.placeOf a with
  | .offered j => if own = some j then none else some j
  | .bound j => some j
  | _ => none

/-- The record BIND_STATIC makes from `r`: STATIC DORMANT with the given terms (R11, R23). -/
def Record.madeStatic (r : Record) (id : ModuleId) (a : Address) (cls : Byte) (groups : GroupSet) (lease : Byte) :
    Record :=
  { r with
    kind := .static, state := .dormant, id := some id, address := some a, segment := none, cls := some cls,
    groups := groups, lease := some lease, ticks := 0, rule := none, slot := none }

/-- An address is taken from where it stands and becomes BOUND to a record (R22). -/
def State.bindAddress (s : State) (a : Address) (i : RecNo) : State := s.withPool (s.pool.take a (.bound i))

/-- BIND_STATIC with the terms given, its checks in the order of R22, then placement (R22) or conversion (R23). -/
def State.bindStatic (s : State) (id : ModuleId) (a : Address) (cls : Byte) (groups : GroupSet) (lease : Byte) :
    State × Answer :=
  if invalidId id then (s, .bare .idInvalid)
  else if !assignable a then (s, .bare .addressInvalid)
  else if lease = 0 then (s, .badField 5)
  else match s.lookup id with
    | some i =>
      if s.records[i].state ≠ .pending then (s, .record .exists_ i s.records[i])
      else match s.pool.inUse a (some i) with
        | some j => (s, ⟨.addressInUse, [numByte j.val]⟩)
        | none =>
          let t := ((s.withdrawForConversion s.records[i] (some a)).bindAddress a i).changeRecord i
            (s.records[i].madeStatic id a cls groups lease)
          (t, .record .ok i t.records[i])
    | none =>
      match s.pool.inUse a none with
      | some j => (s, ⟨.addressInUse, [numByte j.val]⟩)
      | none =>
        match s.placementWay id with
        | none => (s, .bare .bucketFull)
        | some i =>
          let t := (s.placeRecord i (Record.empty.madeStatic id a cls groups lease)).bindAddress a i
          (t, .record .ok i t.records[i])

/-- BIND_STATIC (R22, R23). -/
def execBindStatic (s : State) : Host.Outcome State Fault Refusal :=
  .next (s.serve 0x13 13 fun p t => t.bindStatic (idAt p 0) (byteAt p 8) (byteAt p 9) (wordAt p 10) (byteAt p 12))

/-- The record ADD_DENY makes from `r`: DENIED DORMANT (R11, R24). -/
def Record.madeDenied (r : Record) (id : ModuleId) : Record :=
  { r with
    kind := .denied, state := .dormant, id := some id, address := none, segment := none, cls := none, groups := 0,
    lease := none, ticks := 0, rule := none, slot := none }

/-- ADD_DENY(id) (R24). -/
def State.addDeny (s : State) (id : ModuleId) : State × Answer :=
  if invalidId id then (s, .bare .idInvalid)
  else match s.lookup id with
    | some i =>
      if s.records[i].state ≠ .pending then (s, .record .exists_ i s.records[i])
      else
        let t := (s.withdrawForConversion s.records[i] none).changeRecord i (s.records[i].madeDenied id)
        (t, .record .ok i t.records[i])
    | none =>
      match s.placementWay id with
      | none => (s, .bare .bucketFull)
      | some i =>
        let t := s.placeRecord i (Record.empty.madeDenied id)
        (t, .record .ok i t.records[i])

/-- ADD_DENY (R24). -/
def execAddDeny (s : State) : Host.Outcome State Fault Refusal :=
  .next (s.serve 0x14 8 fun p t => t.addDeny (idAt p 0))

/-- The field number of check 5 of R25: a zero lease is field 6 and PIN with UNPIN field 3 (R189); for both together the
manual does not say which (log entry 3). -/
def EditItems.badField (e : EditItems) : Nat :=
  if e.lease = some 0 then
    if e.pin = true ∧ e.unpin = true then (if Config.editReportsLease then 6 else 3) else 6
  else 3

/-- The record with an edit's change items applied (R26). -/
def EditItems.applyTo (e : EditItems) (r : Record) : Record :=
  { r with
    kind := if e.pin then .static else if e.unpin then .dynamic else r.kind
    cls := e.cls.or r.cls
    groups := e.groups.getD r.groups
    lease := e.lease.or r.lease
    conflicts := if e.clearConflict then 0 else r.conflicts }

/-- A non-zero expected generation that differs from the record's (R13). -/
def Record.mismatch (r : Record) (expected : BitVec 16) : Bool := expected != 0 && expected != r.generation

/-- EDIT_RECORD(index, expected generation, changes): the checks of R25 in order, then R26. -/
def State.editRecord (s : State) (i : RecNo) (expected : BitVec 16) (e : EditItems) : State × Answer :=
  let r := s.records[i]
  if r.state = .empty then (s, .bare .wrongState)
  else if r.mismatch expected then (s, .record .generationMismatch i r)
  else if r.state = .pending ∨ r.state = .retired then (s, .bare .wrongState)
  else if r.kind = .denied ∧ e.beyondClear = true then (s, .bare .wrongKind)
  else if e.lease = some 0 ∨ (e.pin = true ∧ e.unpin = true) then (s, .badField e.badField)
  else if (e.pin = true ∧ r.kind = .static) ∨ (e.unpin = true ∧ r.kind = .dynamic) then (s, .bare .wrongKind)
  else if e.unpin = true ∧ r.state = .dormant then (s, .bare .wrongState)
  else
    let t := s.changeRecord i (e.applyTo r)
    (t, .record .ok i t.records[i])

/-- EDIT_RECORD (R25, R26). -/
def execEditRecord (s : State) : Host.Outcome State Fault Refusal :=
  .next (s.serve 0x15 8 fun p t => t.editRecord (indexAt p 0) (wordAt p 1) (EditItems.ofPayload p))

/-- The address of a retired record is released by the mode: HOLD to the hold list, FREE to the tail of the free list
(R27). -/
def State.releaseByMode (s : State) (r : Record) (hold : Bool) : State :=
  if hold then s.holdAddressOf r else s.freeAddressOf r

/-- The effects of a host retirement of record i, by its state (R27, R28). -/
def State.retire (s : State) (i : RecNo) (hold : Bool) : State :=
  let r := s.records[i]
  match r.state with
  | .pending => (s.withdrawForConversion r none).emptyRecord i
  | .active =>
    ((s.placeForRecord r (.revoke (r.id.getD 0) (r.address.getD 0))).releaseByMode r hold).emptyRecord i
  | .stale =>
    ((s.placeForRecord r (.revoke (r.id.getD 0) (r.address.getD 0))).releaseByMode r hold).emptyRecord i
  | .dormant => (if r.kind = .static then s.releaseByMode r hold else s).emptyRecord i
  | .retired => s.emptyRecord i
  | .empty => s

/-- RETIRE_RECORD(index, expected generation, mode): mode 00h HOLD, 01h FREE (R27, R189). -/
def State.retireRecord (s : State) (i : RecNo) (expected : BitVec 16) (mode : Byte) : State × Answer :=
  let r := s.records[i]
  if r.state = .empty then (s, .bare .notFound)
  else if r.mismatch expected then (s, .record .generationMismatch i r)
  else if mode = 0x00 then (s.retire i true, .record .ok i r)
  else if mode = 0x01 then (s.retire i false, .record .ok i r)
  else (s, .badField 3)

/-- RETIRE_RECORD (R27, R28). -/
def execRetireRecord (s : State) : Host.Outcome State Fault Refusal :=
  .next (s.serve 0x16 4 fun p t => t.retireRecord (indexAt p 0) (wordAt p 1) (byteAt p 3))

/-- The records from an index upwards, through 255 and on from 0 (R29). -/
def scanFrom (start : RecNo) : List RecNo :=
  (List.finRange 256).drop start.val ++ (List.finRange 256).take start.val

/-- COLLECT_ATTENTION(start index) (R29). -/
def State.collectAttention (s : State) (start : RecNo) : State × Answer :=
  match (scanFrom start).find? fun i => s.records[i].attention != 0 with
  | none => (s, .bare .notFound)
  | some i =>
    let r := s.records[i]
    (if r.state = .retired then s.emptyRecord i else s.setRecord i { r with attention := 0 }, .record .ok i r)

/-- COLLECT_ATTENTION (R29). -/
def execCollectAttention (s : State) : Host.Outcome State Fault Refusal :=
  .next (s.serve 0x17 1 fun p t => t.collectAttention (indexAt p 0))

end Sys2Proof.Machine
end

