-- ==== Sys2Proof/Machine/ResetFamily.lean ====
section
/-! DEFINITION. RESET_PIN, POWER_UP, RESET_RECOVERY_DONE and the RESET transaction (R168, R183, R191), and what every
transaction shares (R168, R169). -/

namespace Sys2Proof.Machine

/-- A transaction: the port byte captured as SCS# falls and then `out` are shifted out, and `act` is its effect. While
RESET# is low and until a reset completes, transactions are not received and SDO is not driven (R168, R169). -/
def State.transaction (s : State) (out : List Byte) (act : State → State) : State :=
  if s.phase = .operating then act (s.withSdo (s.portByte :: out)) else s.withSdo []

/-- RESET#, held low, starts a reset (R183, R191). -/
def execResetPin (s : State) : Host.Outcome State Fault Refusal := .next (s.enterReset .pinReset [])

/-- At power-up the part holds itself in reset (R191). -/
def execPowerUp (s : State) : Host.Outcome State Fault Refusal := .next (s.enterReset .powerUp [])

/-- The reset completes, and transactions are received again (R168, R183, R191). -/
def execResetRecoveryDone (s : State) : Host.Outcome State Fault Refusal := .next { s with phase := .operating }

/-- The RESET transaction: SDO carries the port byte and FFh, and as SCS# rises the part is reset (R183, R188). -/
def execReset (extra : List Byte) (s : State) : Host.Outcome State Fault Refusal :=
  .next (s.transaction (List.replicate extra.length 0xFF) fun t => t.enterReset .transactionReset t.sdo)

end Sys2Proof.Machine
end

