-- ==== Sys2Proof/Machine/SegmentCommands.lean ====
section
/-! DEFINITION. SEGMENT_CONTROL and READ_SEGMENT (chapter 8, R148 to R151). -/

namespace Sys2Proof.Machine

/-- The image of a segment (R151). -/
def State.segmentImage (s : State) (n : SegNo) : List Byte := segmentBytes n s.segs[n] s.policy[n]

/-- A segment's bit rate, learning, move policy and visibility mask take their values, the own segment being added to the
mask (R69, R148, step 3). -/
def State.setSegment (s : State) (f : SegFields) : State :=
  { s.withSeg f.segment { s.segs[f.segment] with bitRate := f.bitRate } with
    policy := s.policy.set f.segment
      { learning := f.learning, acceptMoves := f.acceptMoves, visible := f.visible ||| BitVec.twoPow 4 f.segment.val } }

/-- RX_ERROR and OVERFLOW are cleared (R148, step 1). -/
def State.clearSegFlags (s : State) (n : SegNo) : State :=
  s.withSeg n { s.segs[n] with rxError := false, overflow := false }

/-- The effect of a SEGMENT_CONTROL that passes its checks, in its four steps (R148). -/
def State.controlSegment (s : State) (f : SegFields) : State :=
  let n := f.segment
  let s1 := if f.clearFlags then s.clearSegFlags n else s
  let s2 := if f.enable = false ∧ s1.segs[n].state ≠ .disabled then s1.disableSegment n else s1
  let s3 := s2.setSegment f
  if f.enable = true ∧ s3.segs[n].enabled = false then s3.enableSegment n else s3

/-- SEGMENT_CONTROL: the checks of R148 in order, then its effect. -/
def State.segmentControl (s : State) (p : List Byte) : State × Answer :=
  match SegFields.ofPayload p with
  | .error k => (s, .badField k)
  | .ok f =>
    if f.bitRate ≠ s.segs[f.segment].bitRate ∧ s.segs[f.segment].enabled = true ∧ f.enable = true then
      (s, .bare .wrongState)
    else
      let t := s.controlSegment f
      (t, ⟨.ok, t.segmentImage f.segment⟩)

/-- SEGMENT_CONTROL (R148 to R150). -/
def execSegmentControl (s : State) : Host.Outcome State Fault Refusal :=
  .next (s.serve 0x60 7 fun p t => t.segmentControl p)

/-- READ_SEGMENT (R151). -/
def State.readSegment (s : State) (p : List Byte) : State × Answer :=
  match boundedAt 4 p 0 with
  | none => (s, .badField 1)
  | some n => (s, ⟨.ok, s.segmentImage n⟩)

/-- READ_SEGMENT (R151). -/
def execReadSegment (s : State) : Host.Outcome State Fault Refusal :=
  .next (s.serve 0x61 1 fun p t => t.readSegment p)

end Sys2Proof.Machine
end

