-- ==== Sys2Proof/WellFormed.lean ====
section
/-! DEFINITION. Which commands are well formed: the operands that their rules allow. The checks are few, since an
operand out of range has a stated answer in the part itself (R168, R172, R174). -/

namespace Sys2Proof

/-- A byte string is that of an unknown transaction when its code byte is not whole or names none of the six transactions
(R168, R188). -/
def unknownCode (bytes : List Byte) : Bool :=
  match bytes with
  | [] => true
  | code :: _ => (transactionNamed code).isNone

/-- No three idle bit times stand in a row: such a run is the end gap, which ends the frame (R146, R186). -/
def noEndGap : List Level → Bool
  | .idle :: .idle :: .idle :: _ => false
  | _ :: rest => noEndGap rest
  | [] => true

/-- The well-formed commands. -/
def Instr.wellFormed : Instr → Bool
  | .unknownTransaction bytes => unknownCode bytes
  | .frameComplete _ line => noEndGap line
  | _ => true

end Sys2Proof
end

