-- ==== Sys2Proof/Machine/Transactions.lean ====
section
/-! DEFINITION. The SPI transactions other than RESET (chapter 9, R168 to R181, R188). -/

namespace Sys2Proof.Machine

/-- A frame of SUBMIT is judged: nothing for no byte, REJECT_CHECK for a bad frame, REJECT_FULL for a good one with no
free credit, and otherwise the request joins the queue and takes a credit (R172, R173). -/
def State.judgeFrame (s : State) (input : List Byte) : State :=
  if input = [] then s
  else if goodFrame input = false then s.raise .rejectCheck
  else if s.port.credits = 0 then s.raise .rejectFull
  else s.withPort { s.port with requests := s.port.requests ++ [requestOf input], credits := s.port.credits - 1 }

/-- SUBMIT (R172, R173). -/
def execSubmit (input : List Byte) (s : State) : Host.Outcome State Fault Refusal :=
  .next (s.transaction (List.replicate input.length 0x00) fun t => t.judgeFrame input)

/-- The oldest response leaves the queue for the repeat buffer and returns its credit (R176). -/
def Port.removeResponse (p : Port) : Port :=
  match p.responses with
  | [] => p
  | r :: rest => { p with responses := rest, credits := p.credits + 1, repeatBuf := some r }

/-- What FETCH NEXT shifts out: the oldest response, or the empty marker (R176). -/
def Port.nextBlock (p : Port) : List Byte :=
  match p.responses with
  | [] => emptyMarker
  | r :: _ => r.frame

/-- Whether FETCH NEXT, with so many bytes clocked, removes the oldest response: all its LENGTH + 5 bytes were clocked
out (R176). -/
def Port.fetchRemoves (p : Port) (clocked : Nat) : Bool :=
  match p.responses with
  | [] => false
  | r :: _ => decide (r.payload.length + 5 ≤ clocked)

/-- FETCH NEXT (R176). -/
def execFetchNext (clocked : Nat) (s : State) : Host.Outcome State Fault Refusal :=
  .next (s.transaction (shiftedOut s.port.nextBlock clocked) fun t =>
    if t.port.fetchRemoves clocked then t.withPort t.port.removeResponse else t)

/-- What FETCH AGAIN shifts out: the repeat buffer, or the empty marker (R177). -/
def Port.againBlock (p : Port) : List Byte :=
  match p.repeatBuf with
  | none => emptyMarker
  | some r => r.frame

/-- FETCH AGAIN changes nothing (R177). -/
def execFetchAgain (clocked : Nat) (s : State) : Host.Outcome State Fault Refusal :=
  .next (s.transaction (shiftedOut s.port.againBlock clocked) fun t => t)

/-- STATUS changes nothing (R178). -/
def execStatus (clocked : Nat) (s : State) : Host.Outcome State Fault Refusal :=
  .next (s.transaction (shiftedOut s.statusBlock clocked) fun t => t)

/-- NOTIFY: the first input byte gives the three enables (R181, R188). -/
def execNotify (input : List Byte) (s : State) : Host.Outcome State Fault Refusal :=
  .next (s.transaction (List.replicate input.length 0xFF) fun t =>
    match input with
    | [] => t
    | b :: _ => t.withPort { t.port with enables := b.setWidth 3 })

/-- ACKNOWLEDGE: the flags named in the first input byte are cleared (R180, R188). -/
def execAcknowledge (input : List Byte) (s : State) : Host.Outcome State Fault Refusal :=
  .next (s.transaction (List.replicate input.length 0xFF) fun t =>
    match input with
    | [] => t
    | b :: _ => t.withPort { t.port with flags := t.port.flags &&& ~~~b })

/-- What a transaction with an unknown code shifts out: nothing whole when SCS# rose within the code byte, and otherwise
the port byte and then FFh (R168, R188). -/
def State.unknownOut (s : State) (bytes : List Byte) : List Byte :=
  match bytes with
  | [] => []
  | _ :: rest => s.portByte :: List.replicate rest.length 0xFF

/-- A transaction whose code names none of the six is ignored to its end (R168). A byte string that begins with a known
code is not this transaction, and the step is not taken (log entry 1). -/
def execUnknownTransaction (bytes : List Byte) (s : State) : Host.Outcome State Fault Refusal :=
  .next (if unknownCode bytes then s.withSdo (if s.phase = .operating then s.unknownOut bytes else []) else s)

end Sys2Proof.Machine
end

