-- ==== Sys2Proof/Machine/Transmitter.lean ====
section
/-! DEFINITION. The transmitter (chapter 8, R158 to R161). -/

namespace Sys2Proof.Machine

/-- The bit times an attempt drives: the start bit and the coded frame (R186). -/
def TxEntry.line (e : TxEntry) : List Level := .active :: lineCode e.frame

/-- In TX_IDLE an attempt for the head entry begins (R158): the line is driven, not measured, and the receiver is in
RX_GAP. -/
def SegCtl.attemptStart (c : SegCtl) : SegCtl :=
  match c.tx with
  | [] => c
  | e :: rest =>
    if c.enabled = true ∧ c.transmitter = .idle ∧ c.receiver ≠ .receiving then
      { c with
        tx := { e with attempts := e.attempts + 1 } :: rest, transmitter := .sending, receiver := .gap,
        monitor := .quiet, lineOut := e.line }
    else c

/-- ATTEMPT_START on segment n (R158). -/
def execAttemptStart (n : SegNo) (s : State) : Host.Outcome State Fault Refusal :=
  .next (s.withSeg n s.segs[n].attemptStart)

/-- The notice that the end of a message makes: one for an OFFER, none for another kind (R160, R161). -/
def Message.outcome (m : Message) (sent : Bool) : List Notice :=
  match m.offerNonce with
  | some nonce => [⟨sent, nonce⟩]
  | none => []

/-- The head message leaves the queue, sent or dropped, and the transmitter is idle (R160). -/
def SegCtl.finish (c : SegCtl) (e : TxEntry) (rest : List TxEntry) (sent : Bool) : SegCtl :=
  { c with tx := rest, notices := c.notices ++ e.message.outcome sent, transmitter := .idle, lineOut := [] }

/-- The back-off after the n-th failed attempt on a segment, in bit times (R159). -/
def backoffWait (attempts : Nat) (n : SegNo) : Nat := attempts * 32 + 8 * n.val

/-- The monitor as an attempt ends by collision: it measures when the line is still active (R163). -/
def monitorAfter (stillActive : Bool) : Monitor := if stillActive then .measuring else .quiet

/-- A read-back failure ends the attempt: back-off, or the drop after the fourth (R159, R160). -/
def SegCtl.collision (c : SegCtl) (n : SegNo) (stillActive : Bool) : SegCtl :=
  match c.tx with
  | [] => c
  | e :: rest =>
    if c.enabled = true ∧ c.transmitter = .sending then
      if Config.maxAttempts ≤ e.attempts then { c.finish e rest false with monitor := monitorAfter stillActive }
      else { c with
        transmitter := .backoff (backoffWait e.attempts n), lineOut := [], monitor := monitorAfter stillActive }
    else c

/-- COLLISION on segment n (R159, R160, R163). -/
def execCollision (n : SegNo) (stillActive : Bool) (s : State) : Host.Outcome State Fault Refusal :=
  .next (s.withSeg n (s.segs[n].collision n stillActive))

/-- The back-off time has run out (R158). -/
def SegCtl.backoffExpiry (c : SegCtl) : SegCtl :=
  match c.transmitter with
  | .backoff _ => { c with transmitter := .idle }
  | _ => c

/-- BACKOFF_EXPIRY on segment n (R158, R159). -/
def execBackoffExpiry (n : SegNo) (s : State) : Host.Outcome State Fault Refusal :=
  .next (s.withSeg n s.segs[n].backoffExpiry)

/-- An attempt drives its last bit with no read-back failure: the message is sent (R160). -/
def SegCtl.transmitComplete (c : SegCtl) : SegCtl :=
  match c.tx with
  | [] => c
  | e :: rest => if c.enabled = true ∧ c.transmitter = .sending then c.finish e rest true else c

/-- TRANSMIT_COMPLETE on segment n (R160, R161). -/
def execTransmitComplete (n : SegNo) (s : State) : Host.Outcome State Fault Refusal :=
  .next (s.withSeg n s.segs[n].transmitComplete)

end Sys2Proof.Machine
end

