-- ==== Sys2Proof/Machine/Dispatch.lean ====
section
/-! DEFINITION. The meaning of every command: one arm per constructor of Instr. -/

namespace Sys2Proof.Machine

/-- The effect of a command on everything but the queue of commands. -/
def exec (i : Instr) (s : State) : Host.Outcome State Fault Refusal :=
  match i with
  | .resetPin => Sys2Proof.Machine.execResetPin s
  | .powerUp => Sys2Proof.Machine.execPowerUp s
  | .resetRecoveryDone => Sys2Proof.Machine.execResetRecoveryDone s
  | .reset extra => Sys2Proof.Machine.execReset extra s
  | .submit input => Sys2Proof.Machine.execSubmit input s
  | .fetchNext clocked => Sys2Proof.Machine.execFetchNext clocked s
  | .fetchAgain clocked => Sys2Proof.Machine.execFetchAgain clocked s
  | .status clocked => Sys2Proof.Machine.execStatus clocked s
  | .notify input => Sys2Proof.Machine.execNotify input s
  | .acknowledge input => Sys2Proof.Machine.execAcknowledge input s
  | .unknownTransaction bytes => Sys2Proof.Machine.execUnknownTransaction bytes s
  | .badCommand => Sys2Proof.Machine.execBadCommand s
  | .readRecord => Sys2Proof.Machine.execReadRecord s
  | .findId => Sys2Proof.Machine.execFindId s
  | .findAddress => Sys2Proof.Machine.execFindAddress s
  | .bindStatic => Sys2Proof.Machine.execBindStatic s
  | .addDeny => Sys2Proof.Machine.execAddDeny s
  | .editRecord => Sys2Proof.Machine.execEditRecord s
  | .retireRecord => Sys2Proof.Machine.execRetireRecord s
  | .collectAttention => Sys2Proof.Machine.execCollectAttention s
  | .reserveAddress => Sys2Proof.Machine.execReserveAddress s
  | .freeReservation => Sys2Proof.Machine.execFreeReservation s
  | .readAddress => Sys2Proof.Machine.execReadAddress s
  | .readList => Sys2Proof.Machine.execReadList s
  | .setModeRun => Sys2Proof.Machine.execSetModeRun s
  | .setModeHalt => Sys2Proof.Machine.execSetModeHalt s
  | .flushDynamic => Sys2Proof.Machine.execFlushDynamic s
  | .flushStep => Sys2Proof.Machine.execFlushStep s
  | .configure => Sys2Proof.Machine.execConfigure s
  | .readConfig => Sys2Proof.Machine.execReadConfig s
  | .writeRule => Sys2Proof.Machine.execWriteRule s
  | .readRule => Sys2Proof.Machine.execReadRule s
  | .writeGroup => Sys2Proof.Machine.execWriteGroup s
  | .readGroup => Sys2Proof.Machine.execReadGroup s
  | .readClaim => Sys2Proof.Machine.execReadClaim s
  | .segmentControl => Sys2Proof.Machine.execSegmentControl s
  | .readSegment => Sys2Proof.Machine.execReadSegment s
  | .announce n => Sys2Proof.Machine.execAnnounce n s
  | .accept n => Sys2Proof.Machine.execAccept n s
  | .decline n => Sys2Proof.Machine.execDecline n s
  | .heartbeat n => Sys2Proof.Machine.execHeartbeat n s
  | .release n => Sys2Proof.Machine.execRelease n s
  | .resolveId n => Sys2Proof.Machine.execResolveId n s
  | .resolveAddress n => Sys2Proof.Machine.execResolveAddress n s
  | .resolveGroup n => Sys2Proof.Machine.execResolveGroup n s
  | .faultNotice n => Sys2Proof.Machine.execFaultNotice n s
  | .transmitNotice n => Sys2Proof.Machine.execTransmitNotice n s
  | .dropNotice n => Sys2Proof.Machine.execDropNotice n s
  | .millisecond => Sys2Proof.Machine.execMillisecond s
  | .offerWindowRunOut k => Sys2Proof.Machine.execOfferWindowRunOut k s
  | .claimExpiry => Sys2Proof.Machine.execClaimExpiry s
  | .agingTick => Sys2Proof.Machine.execAgingTick s
  | .holdListStep => Sys2Proof.Machine.execHoldListStep s
  | .holdEntryExpiry => Sys2Proof.Machine.execHoldEntryExpiry s
  | .sweepVisit => Sys2Proof.Machine.execSweepVisit s
  | .leaseRunOut => Sys2Proof.Machine.execLeaseRunOut s
  | .staleWindowRunOut => Sys2Proof.Machine.execStaleWindowRunOut s
  | .frameStart n => Sys2Proof.Machine.execFrameStart n s
  | .startGap n => Sys2Proof.Machine.execStartGap n s
  | .frameOverLength n => Sys2Proof.Machine.execFrameOverLength n s
  | .frameComplete n line => Sys2Proof.Machine.execFrameComplete n line s
  | .attemptStart n => Sys2Proof.Machine.execAttemptStart n s
  | .collision n stillActive => Sys2Proof.Machine.execCollision n stillActive s
  | .backoffExpiry n => Sys2Proof.Machine.execBackoffExpiry n s
  | .transmitComplete n => Sys2Proof.Machine.execTransmitComplete n s
  | .lineStuck n => Sys2Proof.Machine.execLineStuck n s
  | .dataLineActiveInGap n => Sys2Proof.Machine.execDataLineActiveInGap n s

end Sys2Proof.Machine
end

