-- ==== Sys2Proof/Safety.lean ====
section
/-! DEFINITION. The terms in which claims are stated: what the arbiter takes, what an answer changes, and the agreements
between the tables that the manual says hold after every operation. -/

namespace Sys2Proof.Machine

/-! ### What is taken and what an answer changes -/

/-- The arbiter grants HOST, and the head request has the given tag, COMMAND and payload (R55, R56). -/
abbrev State.hostTakes (s : State) (tag code : Byte) (payload : List Byte) : Prop :=
  s.granted = some (.request ⟨tag, code, payload, false⟩)

/-- The arbiter grants SEGn, and SCn presents a frame (R57). -/
abbrev State.segTakes (s : State) (n : SegNo) (source : Address) (m : FieldMessage) : Prop :=
  ∃ dest, s.granted = some (.frame n ⟨dest, source, m⟩)

/-- An answered request: the pointer names HOST, the request has left its queue and the response has joined its own; every
other part of the state is as it was (R55, R174). -/
def State.answered (s : State) (tag code : Byte) (st : Status) (payload : List Byte) : State :=
  { s with
    engine := { s.engine with pointer := .host }
    port := { s.port with
      requests := s.port.requests.tail
      responses := s.port.responses ++ [⟨tag, code, st, payload⟩] } }

/-- The host commands with the constructor, the code and the payload length of each (R189). SET_MODE stands twice, once
for each of its rows. -/
def hostCatalogue : List (Instr × Byte × Nat) :=
  [(.readRecord, 0x10, 1), (.findId, 0x11, 8), (.findAddress, 0x12, 1), (.bindStatic, 0x13, 13), (.addDeny, 0x14, 8),
   (.editRecord, 0x15, 8), (.retireRecord, 0x16, 4), (.collectAttention, 0x17, 1), (.reserveAddress, 0x20, 1),
   (.freeReservation, 0x21, 1), (.readAddress, 0x22, 1), (.readList, 0x23, 2), (.setModeRun, 0x30, 1),
   (.setModeHalt, 0x30, 1), (.flushDynamic, 0x31, 0), (.configure, 0x32, 13), (.readConfig, 0x33, 0),
   (.writeRule, 0x40, 20), (.readRule, 0x41, 1), (.writeGroup, 0x42, 3), (.readGroup, 0x43, 1), (.readClaim, 0x50, 1),
   (.segmentControl, 0x60, 7), (.readSegment, 0x61, 1)]

/-- A record takes a new content, and the attention count and the member counts follow it: each falls by what the record
added before and rises by what it adds now (R8, R15, R17). -/
abbrev RecordBecomes (s t : State) (i : RecNo) (r : Record) : Prop :=
  t.records = s.records.set i r
    ∧ t.engine.attnCount = s.engine.attnCount + r.attentive - s.records[i].attentive
    ∧ ∀ g : GroupNo, t.groups[g] =
        { s.groups[g] with members := s.groups[g].members + r.countsFor g - s.records[i].countsFor g }

/-- The answer that carries a rule: its 20 bytes, with a non-zero flag byte before a present override (R75, R76, R189;
which non-zero byte, log entry 4). -/
def CarriesRule (k : RuleNo) (r : Rule) (payload : List Byte) : Prop :=
  ∃ f : Byte, f ≠ 0 ∧
    payload = [BitVec.ofNat 8 k.val, if r.valid then 0x01 else 0x00, if r.action = .permit then 0x00 else 0x01,
        r.leadLength] ++ idBytes r.leadValue
      ++ [r.segments.setWidth 8]
      ++ (match r.clsOverride with | none => [0x00, 0x00] | some c => [f, c])
      ++ bytes16 r.groups ++ [r.low, r.high, r.lease]

/-! ### What a segment and the admission rules allow -/

/-- Segment n takes a message: it is enabled and its transmit queue holds fewer than 6 (R157). -/
abbrev State.hasRoom (s : State) (n : SegNo) : Prop :=
  (s.segs[n].state = .listening ∨ s.segs[n].state = .hushed) ∧ s.segs[n].tx.length < 6

/-- A rule matches an ID announced on segment n: it is valid, its segment mask holds n, and the leading bits of the ID are
those of its value (R77). -/
abbrev Rule.covers (r : Rule) (n : SegNo) (id : ModuleId) : Prop :=
  r.valid = true ∧ r.segments.getLsbD n.val = true
    ∧ ∀ k, k < r.leadLength.toNat → id.getMsbD k = r.leadValue.getMsbD k

/-- The lowest rule that matches an ID announced on segment n is that of slot k (R77). -/
abbrev State.firstCovers (s : State) (n : SegNo) (id : ModuleId) (k : RuleNo) : Prop :=
  s.rules[k].covers n id ∧ ∀ j : RuleNo, j < k → ¬s.rules[j].covers n id

/-- No rule matches an ID announced on segment n. -/
abbrev State.noneCovers (s : State) (n : SegNo) (id : ModuleId) : Prop := ∀ k : RuleNo, ¬s.rules[k].covers n id

/-- A new ID announced on segment n with a class is admitted on the given terms: learning is on there, and the first rule
that matches admits it, or no rule does and the default policy admits it (R77 to R80). -/
abbrev State.admits (s : State) (n : SegNo) (id : ModuleId) (cls : Byte) (d : Terms) : Prop :=
  s.policy[n].learning = true
    ∧ ((∃ k : RuleNo, s.firstCovers n id k ∧ s.rules[k].action = .permit
          ∧ d = ⟨s.rules[k].low, s.rules[k].high, s.rules[k].clsOverride.getD cls, s.rules[k].groups, s.rules[k].lease,
              some k⟩)
      ∨ (s.noneCovers n id ∧ s.config.defaultPolicy = .permit
          ∧ d = ⟨s.config.rangeLow, s.config.rangeHigh, cls, s.config.defaultGroups, s.config.defaultLease, none⟩))

/-! ### Lawful frames -/

/-- A module ID that a frame may carry: neither all zeros nor all ones (chapter 0). -/
abbrev lawfulId (id : ModuleId) : Prop := id ≠ 0 ∧ id ≠ 0xFFFFFFFFFFFFFFFF

/-- A frame that a module may send to the G240: to F0h, or to FFh when it is an ANNOUNCE; from an assignable address, or
from 00h when it is an ANNOUNCE, an ACCEPT or a DECLINE; with lawful module IDs (R154). -/
def RxFrame.lawful (f : RxFrame) : Prop :=
  match f.message with
  | .announce id _ _ => (f.dest = 0xF0 ∨ f.dest = 0xFF) ∧ f.source < 0xF0 ∧ lawfulId id
  | .accept id _ _ => f.dest = 0xF0 ∧ f.source < 0xF0 ∧ lawfulId id
  | .decline id _ => f.dest = 0xF0 ∧ f.source < 0xF0 ∧ lawfulId id
  | .heartbeat id => f.dest = 0xF0 ∧ 0x01 ≤ f.source ∧ f.source < 0xF0 ∧ lawfulId id
  | .release id => f.dest = 0xF0 ∧ 0x01 ≤ f.source ∧ f.source < 0xF0 ∧ lawfulId id
  | .resolve requester question =>
    f.dest = 0xF0 ∧ 0x01 ≤ f.source ∧ f.source < 0xF0 ∧ lawfulId requester
      ∧ (∀ target, question = .byId target → lawfulId target)

/-! ### Agreements of the Host Port and the Table Engine -/

/-- The free credits equal 4 less the requests and responses held (R171). -/
abbrev CreditsHold (s : State) : Prop :=
  s.port.credits + s.port.requests.length + s.port.responses.length = 4

/-- The attention count is the number of records whose attention set is not empty (R15). -/
abbrev AttentionExact (s : State) : Prop :=
  s.engine.attnCount = s.records.toList.countP fun r => r.attention != 0

/-- Each member count is the number of counted records whose group set holds the group (R17, R83). -/
abbrev MembersExact (s : State) : Prop :=
  ∀ g : GroupNo, s.groups[g].members = s.records.toList.countP fun r => r.counted && r.groups.getLsbD g

/-- The modes and the long operations agree: neither sweep nor flush in HALTED, a sweep in flight only in RUNNING, a flush
in flight exactly in FLUSHING, at most two ticks owed and none in HALTED (R59, R115); the request at the head is a
FLUSH_DYNAMIC marked taken in FLUSHING, and no other request is marked taken in any mode (R56, R64, R65). -/
abbrev LongOperationsAgree (s : State) : Prop :=
  (s.engine.flushing = true ↔ s.engine.mode = .flushing)
    ∧ (s.engine.sweeping = true → s.engine.mode = .running)
    ∧ s.engine.owed ≤ 2
    ∧ (s.engine.mode = .halted → s.engine.owed = 0)
    ∧ (s.engine.mode = .flushing → ∃ r ∈ s.port.requests.head?, r.taken = true ∧ r.command = 0x31)
    ∧ (s.engine.mode ≠ .flushing → ∀ r ∈ s.port.requests, r.taken = false)
    ∧ (∀ r ∈ s.port.requests.tail, r.taken = false)

/-- The nonce counter never holds 0000h (R70). -/
abbrev NonceLive (s : State) : Prop := s.engine.nonce ≠ 0

/-- Every parameter of the configuration lies in its range (R66). -/
abbrev Params.inBounds (c : Params) : Prop :=
  1000 ≤ c.refKhz.toNat ∧ c.refKhz.toNat ≤ 50000 ∧ c.tickPeriod ≠ 0 ∧ c.defaultLease ≠ 0 ∧ c.staleWindow ≠ 0
    ∧ c.offerWindow ≠ 0 ∧ c.retryHint ≠ 0 ∧ validRange c.rangeLow c.rangeHigh = true

/-- Every field of an admission rule lies in its range, and the bits of its value beyond its leading length are zero
(R73, R74). -/
abbrev Rule.inBounds (r : Rule) : Prop :=
  r.leadLength.toNat ≤ 64 ∧ r.leadValue <<< r.leadLength.toNat = 0 ∧ validRange r.low r.high = true ∧ r.lease ≠ 0

/-- The configuration and the rules hold values in range only (R66, R73). -/
abbrev SettingsInBounds (s : State) : Prop :=
  s.config.inBounds ∧ ∀ k : RuleNo, s.rules[k].inBounds

/-! ### Agreements of a Segment Controller -/

/-- A Segment Controller's parts agree with its state (R147, R152, R155, R157 to R161, R163, R164): down, everything is
off and empty; enabled, the receiver and the monitor are on, and HUSHED means two frames; a fault notice is held only in
FAULT; the transmit queue holds at most 6 messages, only its head is started, and an attempt or a back-off is under way for
a started head alone; the data line is driven, and the receiver waits, while sending; OFFERs queued and notices held number
at most 6 together. -/
abbrev SegCtl.agrees (c : SegCtl) : Prop :=
  (c.enabled = false → c.receiver = .off ∧ c.transmitter = .idle ∧ c.monitor = .off ∧ c.rx = [] ∧ c.tx = []
      ∧ c.notices = [])
    ∧ (c.enabled = true → c.receiver ≠ .off ∧ c.monitor ≠ .off)
    ∧ (c.state = .listening → c.rx.length ≤ 1)
    ∧ (c.state = .hushed → c.rx.length = 2)
    ∧ (c.faultNotice = true → c.state = .fault)
    ∧ c.tx.length ≤ 6
    ∧ (∀ e ∈ c.tx.tail, e.attempts = 0)
    ∧ (∀ e ∈ c.tx, e.attempts ≤ 4 ∧ (c.transmitter ≠ .sending → e.attempts ≤ 3))
    ∧ (c.transmitter ≠ .idle → c.headAttempts ≠ 0)
    ∧ (c.transmitter = .sending → c.receiver = .gap)
    ∧ (c.transmitter ≠ .sending → c.lineOut = [])
    ∧ (c.tx.countP fun e => e.message.offerNonce.isSome) + c.notices.length ≤ 6

/-- Every Segment Controller's parts agree. -/
abbrev SegmentsAgree (s : State) : Prop := ∀ n : SegNo, s.segs[n].agrees

/-! ### Agreements of the tables -/

/-- A record's kind and state form an allowed pair (R3). -/
def Record.allowedPair (r : Record) : Bool :=
  match r.kind, r.state with
  | .none, .empty => true
  | .dynamic, .pending => true
  | .dynamic, .active => true
  | .dynamic, .stale => true
  | .dynamic, .retired => true
  | .static, .dormant => true
  | .static, .active => true
  | .static, .stale => true
  | .denied, .dormant => true
  | _, _ => false

/-- Every record is in an allowed pair (R3). -/
abbrev PairsAllowed (s : State) : Prop := ∀ i : RecNo, s.records[i].allowedPair = true

/-- A record holds a bound address: it is STATIC, or DYNAMIC ACTIVE or STALE (R30). -/
def Record.bound (r : Record) : Bool := r.kind == .static || (r.kind == .dynamic && r.live)

/-- The fields present in a record are those of its kind and state, ticks left is 0 outside ACTIVE and STALE, the
generation is 0000h in EMPTY alone, and a tombstone's attention set is not empty (R3, R4, R12, R15). The admitting rule may
be present or absent in a DYNAMIC or STATIC record, and the segment in a STATIC DORMANT one. -/
abbrev Record.complete (r : Record) : Prop :=
  r.allowedPair = true
    ∧ (r.state = .empty → r = Record.empty)
    ∧ (r.state ≠ .empty → r.id ≠ none ∧ r.generation ≠ 0)
    ∧ (r.kind = .dynamic ∨ r.kind = .static → r.address ≠ none ∧ r.cls ≠ none ∧ r.lease ≠ none)
    ∧ (r.kind = .dynamic ∨ r.live = true → r.segment ≠ none)
    ∧ (r.kind = .denied → r.address = none ∧ r.segment = none ∧ r.cls = none ∧ r.lease = none ∧ r.rule = none)
    ∧ (r.slot ≠ none ↔ r.state = .pending)
    ∧ (r.counted = false → r.groups = 0)
    ∧ (r.live = false → r.ticks = 0)
    ∧ (r.state = .retired → r.attention ≠ 0)

/-- Every record holds the fields of its kind and state. -/
abbrev RecordsComplete (s : State) : Prop := ∀ i : RecNo, s.records[i].complete

/-- The leases and the countdowns of live records lie in 1..255 (R2, R118). -/
abbrev LeasesRun (s : State) : Prop :=
  ∀ i : RecNo, s.records[i].lease ≠ some 0 ∧ (s.records[i].live = true → s.records[i].ticks ≠ 0)

/-- Every record that is not EMPTY lies in the bucket of its ID (R1). -/
abbrev BucketsHold (s : State) : Prop :=
  ∀ i : RecNo, s.records[i].state ≠ .empty → ∀ id, s.records[i].id = some id → i.val / 4 = (bucketOf id).val

/-- No two records in states PENDING, DORMANT, ACTIVE or STALE hold the same ID (R9). -/
abbrev IdsDistinct (s : State) : Prop :=
  ∀ i j : RecNo, s.records[i].findable = true → s.records[j].findable = true → s.records[i].id = s.records[j].id → i = j

/-- The lists and the map of the pool name the same place for every address: an assignable address is on the free list
exactly when FREE and on the hold list exactly when HELD, once each; the other addresses are INVALID and on neither; the
hold list holds at most 32 entries (R30, R32, R36). -/
abbrev Pool.agrees (p : Pool) : Prop :=
  p.free.Nodup ∧ (p.hold.map (·.address)).Nodup ∧ p.hold.length ≤ 32
    ∧ (∀ a : Address, p.map[a.toFin] = .free ↔ a ∈ p.free)
    ∧ (∀ a : Address, p.map[a.toFin] = .held ↔ a ∈ p.hold.map (·.address))
    ∧ (∀ a : Address, p.map[a.toFin] = .invalid ↔ assignable a = false)

/-- The pool's lists and map agree. -/
abbrev PoolAgrees (s : State) : Prop := s.pool.agrees

/-- Busy claim slots and PENDING records correspond one to one, and agree on ID, segment and offered address (R90). -/
abbrev ClaimsAgree (s : State) : Prop :=
  (∀ k : SlotNo, ∀ c, s.slots[k] = some c →
      s.records[c.record].state = .pending ∧ s.records[c.record].slot = some k
        ∧ s.records[c.record].id = some c.id ∧ s.records[c.record].segment = some c.segment
        ∧ s.records[c.record].address = some c.address)
    ∧ (∀ i : RecNo, s.records[i].state = .pending →
        ∃ k : SlotNo, ∃ c, s.slots[k] = some c ∧ c.record = i)

/-- The map names a record for an address exactly when that record holds it: OFFERED for a PENDING record, BOUND for a
record that holds a bound address (R30, R31). -/
abbrev AddressesAgree (s : State) : Prop :=
  ∀ (a : Address) (i : RecNo),
    (s.pool.map[a.toFin] = .offered i ↔ s.records[i].state = .pending ∧ s.records[i].address = some a)
      ∧ (s.pool.map[a.toFin] = .bound i ↔ s.records[i].bound = true ∧ s.records[i].address = some a)

/-- The tables agree with one another: pool, claims and records (R4, R30, R90). -/
abbrev TablesAgree (s : State) : Prop :=
  PoolAgrees s ∧ ClaimsAgree s ∧ RecordsComplete s ∧ AddressesAgree s

/-- A slot is due exactly when its claim is OFFERED with no time left, and at most once; those that ran out in the
millisecond completed last stand behind the others, in ascending order (R58, R91). -/
abbrev ExpiriesAgree (s : State) : Prop :=
  s.due.Nodup ∧ (s.due.Pairwise fun j k => j ∈ s.ranOut → k ∈ s.ranOut ∧ j < k)
    ∧ ∀ k : SlotNo, k ∈ s.due ↔ s.slots[k].any fun c => c.phase == .offered && c.window == 0

end Sys2Proof.Machine
end

