-- ==== Sys2Proof/Certificates/Slice0/Obligations.lean ====
section
/-! DEFINITION. The statements for the provers. -/

section

open Sys2Proof Sys2Proof.Machine

/-! ### The step, time and reset -/

/-- A command at the front of the queue is performed on the state with the rest of the queue, and answers a next state with
that rest waiting. The queue is the model's (log entry 15). No command stops the part: one whose event is there has the
effect that its rule gives, and one whose event is not there, of which the manual says nothing, is passed by with a next
state by the model's choice (log entry 1). -/
def Obligations.StepRunsFrontCommand : Prop :=
  ∀ (c : Instr) (rest : List Instr) (s : State),
    step { s with pending := c :: rest } = exec c { s with pending := rest }
      ∧ ∃ t, exec c { s with pending := rest } = .next t ∧ t.pending = rest

/-- On an empty queue one period of REFCLK passes (log entry 12). The divider counts it; at REF_KHZ periods the millisecond
completes, as MILLISECOND says; held in reset, nothing is counted (R113). -/
def Obligations.EmptyQueueCountsRefclk : Prop :=
  ∀ s : State, s.pending = [] →
    (s.phase = .operating → s.aging.divider + 1 < s.config.refKhz.toNat →
        step s = .next { s with aging := { s.aging with divider := s.aging.divider + 1 } })
      ∧ (s.phase = .operating → s.config.refKhz.toNat ≤ s.aging.divider + 1 → step s = exec .millisecond s)
      ∧ (s.phase ≠ .operating → step s = .next s)

/-- A completed millisecond takes one from the window of every OFFERED slot; the slots whose window reaches 0 become due,
behind those already due, in ascending order, and are held as those of the millisecond completed last; the tick counter
advances by one, and on completing TICK_PERIOD × 100 a tick is delivered, as AGING_TICK says, and the tick counter starts
again from 0. MILLISECOND is the completion of the millisecond in progress, and AGING_TICK, whenever it comes, starts both
counters from 0, by the model's choice (log entries 11 and 12) (R58, R91, R113). -/
def Obligations.MillisecondCountsWindowsAndTicks : Prop :=
  ∀ s : State, s.phase = .operating →
    ∃ u : State,
      u = { s with slots := u.slots, due := u.due, ranOut := u.ranOut }
        ∧ (∀ k : SlotNo, u.slots[k] =
            s.slots[k].map fun c => if c.phase = .offered then { c with window := c.window - 1 } else c)
        ∧ u.ranOut = (List.finRange 8).filter
            (fun k => s.slots[k].any fun c => c.phase == .offered && c.window == 1)
        ∧ u.due = s.due ++ u.ranOut
        ∧ (s.aging.tickCount + 1 < s.config.tickPeriod.toNat * 100 →
            exec .millisecond s = .next { u with aging := { divider := 0, tickCount := s.aging.tickCount + 1 } })
        ∧ (s.config.tickPeriod.toNat * 100 ≤ s.aging.tickCount + 1 →
            exec .millisecond s = exec .agingTick u)
        ∧ (∃ t, exec .agingTick u = .next t ∧ t.aging = { divider := 0, tickCount := 0 })
        ∧ ∃ t, exec .agingTick s = .next t ∧ t.aging = { divider := 0, tickCount := 0 }

/-- A delivered tick is discarded in HALTED; starts a sweep in RUNNING with no sweep in flight and no FLUSH_DYNAMIC
standing untaken at the head; and is owed otherwise, or lost with SWEEP_LAG (bit 3) when two are owed. Nothing but the
sweep state, the flags and the Aging Unit's own counters changes; the counters are MillisecondCountsWindowsAndTicks'
matter (R114). -/
def Obligations.AgingTickActsByMode : Prop :=
  ∀ s : State, s.phase = .operating →
    ∃ t, exec .agingTick s = .next t
      ∧ t = { s with aging := t.aging, engine := t.engine, port := t.port }
      ∧ (s.engine.mode = .halted → t.engine = s.engine ∧ t.port = s.port)
      ∧ (s.engine.mode = .running → s.engine.sweeping = false →
          (∀ r ∈ s.port.requests.head?, r.taken = true ∨ r.command ≠ 0x31) →
          t.engine = { s.engine with sweeping := true, sweepNext := .holdList } ∧ t.port = s.port)
      ∧ ((s.engine.mode = .flushing ∨ (s.engine.mode = .running ∧ (s.engine.sweeping = true
            ∨ ∃ r ∈ s.port.requests.head?, r.taken = false ∧ r.command = 0x31))) →
          (s.engine.owed < 2 → t.engine = { s.engine with owed := s.engine.owed + 1 } ∧ t.port = s.port)
            ∧ (2 ≤ s.engine.owed → t.engine = s.engine
                ∧ t.port = { s.port with flags := s.port.flags ||| 0x08 }))

/-- RESET#, power-up and the RESET transaction return every block to its reset values. In a RESET transaction SDO carries the
port byte as it stood, then FFh; for the other two the model's record of SDO is empty (log entry 2). The completion of the
reset brings the part back into operation and changes nothing else. That every block has its reset value from the start of
the reset on, that the waiting commands stay, and that the completion ends any of the three resets, is the model's choice
(log entry 17) (R18, R51, R71, R73, R83, R90, R113, R166, R170, R183, R188, R191). -/
def Obligations.ResetReturnsEveryBlock : Prop :=
  (∀ (c : Instr) (s : State),
      (c = .resetPin ∨ c = .powerUp ∨ (s.phase = .operating ∧ ∃ extra, c = .reset extra)) →
      ∃ t, exec c s = .next t ∧ t.phase ≠ .operating ∧ t.pending = s.pending
        ∧ (c = .resetPin ∨ c = .powerUp → t.sdo = [])
        ∧ (∀ extra, c = .reset extra → t.sdo = s.portByte :: List.replicate extra.length 0xFF)
        ∧ (∀ i : RecNo, t.records[i] = Record.empty)
        ∧ t.pool.free.map BitVec.toNat = (List.range 239).map (· + 1) ∧ t.pool.hold = []
        ∧ (∀ a : Address, t.pool.map[a.toFin] = if 1 ≤ a.toNat ∧ a.toNat ≤ 0xEF then Place.free else .invalid)
        ∧ (∀ k : RuleNo, t.rules[k] = ⟨false, .permit, 0, 0, 0, none, 0, 0x01, 0xEF, 60⟩)
        ∧ (∀ g : GroupNo, t.groups[g] = ⟨false, 0xF, 0⟩)
        ∧ (∀ k : SlotNo, t.slots[k] = none) ∧ t.due = [] ∧ t.ranOut = []
        ∧ t.engine = ⟨.halted, .timer, false, .holdList, 0, false, 0, 0, 1, 0⟩
        ∧ t.config = ⟨25000, 10, 60, 10, 30, 25, 50, .permit, 0x01, 0xEF, 0⟩
        ∧ (∀ n : SegNo, t.policy[n] = ⟨true, true, 0xF⟩)
        ∧ t.aging = ⟨0, 0⟩
        ∧ (∀ n : SegNo, t.segs[n] = ⟨.disabled, .off, .idle, .off, [], [], [], false, false, false, .k125, []⟩)
        ∧ t.port = ⟨[], [], 4, none, 0, 0⟩)
    ∧ ∀ s : State, exec .resetRecoveryDone s = .next { s with phase := .operating }

/-! ### The SPI transactions -/

/-- SUBMIT judges its frame as SCS# rises. The frame is good when it has at least 4 bytes, a LENGTH of at most 24, exactly
LENGTH + 4 bytes and its CRC-8 as CHECK: polynomial x^8 + x^2 + x + 1 from 00h, bit by bit. No byte: no effect. A bad
frame: REJECT_CHECK (bit 1). A good one with no credit: REJECT_FULL (bit 0). A good one with a credit joins the request queue
and takes it. SDO carries the port byte, then 00h (R172, R173). -/
def Obligations.SubmitJudgesFrame : Prop :=
  (∀ bytes : List Byte, crc8 bytes =
      (frameBits bytes).foldl (fun (x : Byte) b => if x.msb != b then (x <<< 1) ^^^ 0x07 else x <<< 1) 0x00)
    ∧ ∀ (s : State) (input : List Byte), s.phase = .operating →
    let length := (input.getD 2 0).toNat
    let good := 4 ≤ input.length ∧ length ≤ 24 ∧ input.length = length + 4
      ∧ input.getLast? = some (crc8 input.dropLast)
    ∃ t, exec (.submit input) s = .next t
      ∧ t = { s with port := t.port, sdo := s.portByte :: List.replicate input.length 0x00 }
      ∧ (input = [] → t.port = s.port)
      ∧ (input ≠ [] → ¬good → t.port = { s.port with flags := s.port.flags ||| 0x02 })
      ∧ (good → s.port.credits = 0 → t.port = { s.port with flags := s.port.flags ||| 0x01 })
      ∧ (good → s.port.credits ≠ 0 →
          t.port = { s.port with
            requests := s.port.requests ++
              [⟨input.getD 0 0, input.getD 1 0, (input.drop 3).take length, false⟩]
            credits := s.port.credits - 1 })

/-- A request frame with one byte altered in transit is discarded with REJECT_CHECK, and the queues and the credits stand:
the CRC-8 and the LENGTH between them find every such error (R172). -/
def Obligations.AlteredByteIsRejected : Prop :=
  ∀ (s : State) (tag command : Byte) (payload : List Byte) (i : Nat) (b : Byte),
    s.phase = .operating → payload.length ≤ 24 →
    let body := [tag, command, BitVec.ofNat 8 payload.length] ++ payload
    let frame := body ++ [crc8 body]
    ∀ h : i < frame.length, b ≠ frame[i] →
      ∃ t, exec (.submit (frame.set i b)) s = .next t
        ∧ t.port = { s.port with flags := s.port.flags ||| 0x02 }

/-- FETCH NEXT shifts out the oldest response (TAG, COMMAND, STATUS, LENGTH, PAYLOAD, CHECK) and then FFh, and removes it
into the repeat buffer, returning its credit, exactly when all its LENGTH + 5 bytes were clocked; on an empty queue it shifts
out the empty marker and changes nothing. Each status has its code, none of them FFh (R176, R188). -/
def Obligations.FetchNextReturnsOldest : Prop :=
  (∀ st : Status, st.code = match st with
      | .ok => 0x00 | .notFound => 0x01 | .exists_ => 0x02 | .addressInUse => 0x03 | .addressInvalid => 0x04
      | .idInvalid => 0x05 | .bucketFull => 0x06 | .generationMismatch => 0x07 | .wrongMode => 0x08
      | .wrongState => 0x09 | .wrongKind => 0x0A | .badParameter => 0x0B | .badCommand => 0x0C)
    ∧ ∀ (s : State) (clocked : Nat), s.phase = .operating →
    (s.port.responses = [] →
        exec (.fetchNext clocked) s = .next { s with
          sdo := s.portByte ::
            ([0x00, 0x00, 0xFF, 0x00, crc8 [0x00, 0x00, 0xFF, 0x00]] ++ List.replicate clocked 0xFF).take clocked })
      ∧ ∀ r rest, s.port.responses = r :: rest →
          let body := [r.tag, r.command, r.status.code, BitVec.ofNat 8 r.payload.length] ++ r.payload
          exec (.fetchNext clocked) s = .next { s with
            sdo := s.portByte :: ((body ++ [crc8 body]) ++ List.replicate clocked 0xFF).take clocked
            port := if r.payload.length + 5 ≤ clocked then
                { s.port with responses := rest, credits := s.port.credits + 1, repeatBuf := some r }
              else s.port }

/-- FETCH AGAIN shifts out the response last removed, in full, or the empty marker, then FFh; STATUS shifts out the 14-byte
status block, then FFh. Neither changes anything (R177, R178). -/
def Obligations.FetchAgainAndStatusChangeNothing : Prop :=
  ∀ (s : State) (clocked : Nat), s.phase = .operating →
    (s.port.repeatBuf = none →
        exec (.fetchAgain clocked) s = .next { s with
          sdo := s.portByte ::
            ([0x00, 0x00, 0xFF, 0x00, crc8 [0x00, 0x00, 0xFF, 0x00]] ++ List.replicate clocked 0xFF).take clocked })
      ∧ (∀ r, s.port.repeatBuf = some r →
          let body := [r.tag, r.command, r.status.code, BitVec.ofNat 8 r.payload.length] ++ r.payload
          exec (.fetchAgain clocked) s = .next { s with
            sdo := s.portByte :: ((body ++ [crc8 body]) ++ List.replicate clocked 0xFF).take clocked })
      ∧ s.statusBlock.length = 14
      ∧ exec (.status clocked) s = .next { s with
          sdo := s.portByte :: (s.statusBlock ++ List.replicate clocked 0xFF).take clocked }

/-- NOTIFY gives all three enables the values of bits 2..0 of its first input byte; ACKNOWLEDGE clears the flags named in
its first input byte and leaves the others; without an input byte neither changes anything, and bytes after the first are
discarded. SDO carries the port byte, then FFh (R180, R181). -/
def Obligations.NotifyAndAcknowledge : Prop :=
  ∀ (s : State) (rest : List Byte) (b : Byte), s.phase = .operating →
    exec (.notify []) s = .next { s with sdo := [s.portByte] }
      ∧ exec (.acknowledge []) s = .next { s with sdo := [s.portByte] }
      ∧ (∃ t, exec (.notify (b :: rest)) s = .next t
          ∧ t = { s with
              port := { s.port with enables := t.port.enables }
              sdo := s.portByte :: List.replicate (rest.length + 1) 0xFF }
          ∧ ∀ k, k < 3 → t.port.enables.getLsbD k = b.getLsbD k)
      ∧ (∃ t, exec (.acknowledge (b :: rest)) s = .next t
          ∧ t = { s with
              port := { s.port with flags := t.port.flags }
              sdo := s.portByte :: List.replicate (rest.length + 1) 0xFF }
          ∧ ∀ k, t.port.flags.getLsbD k = (s.port.flags.getLsbD k && !b.getLsbD k))

/-- The first byte shifted in picks the transaction, and the bytes after it are its input or are counted. A transaction whose
code byte is not whole, or names none of the six, changes nothing: SDO carries nothing whole, or the port byte and then FFh.
While the part is held in reset no transaction is received and SDO is not driven (R168, R188). -/
def Obligations.UnreceivedTransactions : Prop :=
  (∀ input : List Byte,
    decodeTransaction (0x51 :: input) = .submit input
      ∧ decodeTransaction (0x52 :: input) = .fetchNext input.length
      ∧ decodeTransaction (0x53 :: input) = .fetchAgain input.length
      ∧ decodeTransaction (0x54 :: input) = .status input.length
      ∧ decodeTransaction (0x55 :: input) = .notify input
      ∧ decodeTransaction (0x56 :: input) = .acknowledge input
      ∧ decodeTransaction (0x5F :: input) = .reset input
      ∧ decodeTransaction [] = .unknownTransaction []
      ∧ ∀ b : Byte, b ∉ ([0x51, 0x52, 0x53, 0x54, 0x55, 0x56, 0x5F] : List Byte) →
          decodeTransaction (b :: input) = .unknownTransaction (b :: input))
    ∧ ∀ (s : State),
    (s.phase = .operating → exec (.unknownTransaction []) s = .next { s with sdo := [] })
      ∧ (s.phase = .operating → ∀ (b : Byte) (rest : List Byte),
          b ∉ ([0x51, 0x52, 0x53, 0x54, 0x55, 0x56, 0x5F] : List Byte) →
          exec (.unknownTransaction (b :: rest)) s =
            .next { s with sdo := s.portByte :: List.replicate rest.length 0xFF })
      ∧ (s.phase ≠ .operating → ∀ (input : List Byte) (clocked : Nat), ∀ c ∈
          ([.submit input, .fetchNext clocked, .fetchAgain clocked, .status clocked, .notify input, .acknowledge input,
            .reset input, .unknownTransaction [], .unknownTransaction (0x00 :: input)] : List Instr),
          exec c s = .next { s with sdo := [] })

/-- The port byte carries the free credits, the responses ready and the two summaries; ATTN# is low exactly while an enabled
condition holds: a response held, an attention count above 0, a flag set; the hush line of a segment is driven exactly in
HUSHED; and the status block shows the state of the tables and the port, field by field (R147, R169, R178, R182, R188,
R190). -/
def Obligations.PortByteAttnAndStatusBlock : Prop :=
  ∀ s : State, CreditsHold s → s.engine.attnCount ≤ 256 → s.engine.owed ≤ 2 →
    s.pool.free.length ≤ 239 → s.pool.hold.length ≤ 32 →
    (s.portByte.extractLsb' 5 3).toNat = s.port.credits
      ∧ (s.portByte.extractLsb' 2 3).toNat = s.port.responses.length
      ∧ (s.portByte.getLsbD 1 = true ↔ s.port.flags ≠ 0)
      ∧ (s.portByte.getLsbD 0 = true ↔ 0 < s.engine.attnCount)
      ∧ (s.attnLow = true ↔ (s.port.enables.getLsbD 0 = true ∧ s.port.responses ≠ [])
          ∨ (s.port.enables.getLsbD 1 = true ∧ 0 < s.engine.attnCount)
          ∨ (s.port.enables.getLsbD 2 = true ∧ s.port.flags ≠ 0))
      ∧ (∀ n : SegNo, s.hushActive n = true ↔ s.segs[n].state = .hushed)
      ∧ ∃ b0 b1 b2 b3 b4 b5 b6 b7 b8 b9 b10 b11 b12 b13 : Byte,
      s.statusBlock = [b0, b1, b2, b3, b4, b5, b6, b7, b8, b9, b10, b11, b12, b13]
        ∧ b0.toNat = (match s.engine.mode with | .halted => 0 | .running => 1 | .flushing => 2)
        ∧ b1.toNat = s.port.requests.length ∧ b2.toNat = s.port.responses.length ∧ b3.toNat = s.port.credits
        ∧ b4.toNat * 256 + b5.toNat = s.engine.attnCount
        ∧ b6.toNat = s.pool.free.length ∧ b7.toNat = s.pool.hold.length
        ∧ b8.toNat = (List.finRange 8).countP (fun k : SlotNo => s.slots[k].isSome)
        ∧ (∀ n : SegNo, (b9.extractLsb' (2 * n.val) 2).toNat = (match s.segs[n].state with
            | .disabled => 0 | .listening => 1 | .hushed => 2 | .fault => 3))
        ∧ b10.getLsbD 0 = s.engine.sweeping ∧ (b10.extractLsb' 1 2).toNat = s.engine.owed
        ∧ b10.getLsbD 3 = (s.engine.sweeping && s.engine.sweepNext != .holdList) ∧ b10.extractLsb' 4 4 = 0
        ∧ b11 = s.port.flags
        ∧ b12.extractLsb' 0 3 = s.port.enables ∧ b12.getLsbD 7 = s.attnLow ∧ b12.extractLsb' 3 4 = 0
        ∧ (∀ i : RecNo, s.engine.sweeping = true → s.engine.sweepNext = .visit i → b13.toNat = i.val)
        ∧ (s.engine.sweeping = true → s.engine.sweepNext = .holdList → b13 = 0)
        ∧ (s.engine.sweeping = false → s.engine.flushing = true → b13.toNat = s.engine.flushNext.val)
        ∧ (s.engine.sweeping = false → s.engine.flushing = false → b13 = 0)

/-! ### Host commands: reading, binding, editing and ending records -/

/-- A request whose COMMAND names no host command is answered BAD_COMMAND with no payload; one whose LENGTH is not the
command's is answered BAD_PARAMETER with field number 0, FLUSH_DYNAMIC too (log entry 7). Neither
changes a table (R174, R189). -/
def Obligations.MisfitRequestsAnswered : Prop :=
  ∀ (s : State) (tag code : Byte) (payload : List Byte), s.hostTakes tag code payload →
    ((∀ c len, (c, code, len) ∉ hostCatalogue) →
        exec .badCommand s = .next (s.answered tag code .badCommand []))
      ∧ ∀ c len, (c, code, len) ∈ hostCatalogue → payload.length ≠ len →
          exec c s = .next (s.answered tag code .badParameter [0])

/-- READ_RECORD answers the record at its index; FIND_ID the record found by lookup, NOT_FOUND or ID_INVALID; FIND_ADDRESS
the record of an OFFERED or BOUND address, or NOT_FOUND with the address state. None changes anything but the queues of the
port (R19, R20, R21). The image is 23 bytes, field by field, an absent field 00h, with the presence bits last; bits 7..5 of
the presence byte are left open here (log entry 5). -/
def Obligations.RecordReadsAnswer : Prop :=
  (∀ r : Record, ∃ head presence : Byte,
    r.image = [head] ++ idBytes (r.id.getD 0)
        ++ [r.address.getD 0, r.cls.getD 0, r.lease.getD 0, r.ticks, BitVec.ofNat 8 r.conflicts.toNat]
        ++ bytes16 r.groups ++ [r.attention] ++ bytes16 r.generation
        ++ [match r.segment with | none => 0x00 | some n => BitVec.ofNat 8 n.val,
            match r.rule with | none => 0x00 | some k => BitVec.ofNat 8 k.val,
            match r.slot with | none => 0x00 | some k => BitVec.ofNat 8 k.val, presence]
      ∧ (head.extractLsb' 4 4).toNat = (match r.kind with | .none => 0 | .dynamic => 1 | .static => 2 | .denied => 3)
      ∧ (head.extractLsb' 0 4).toNat = (match r.state with
          | .empty => 0 | .pending => 1 | .dormant => 2 | .active => 3 | .stale => 4 | .retired => 5)
      ∧ presence.getLsbD 0 = r.segment.isSome ∧ presence.getLsbD 1 = r.cls.isSome ∧ presence.getLsbD 2 = r.lease.isSome
      ∧ presence.getLsbD 3 = r.rule.isSome ∧ presence.getLsbD 4 = r.slot.isSome)
    ∧ ∀ (s : State) (tag : Byte),
    (∀ i : RecNo, s.hostTakes tag 0x10 [BitVec.ofNat 8 i.val] →
        exec .readRecord s = .next (s.answered tag 0x10 .ok (BitVec.ofNat 8 i.val :: s.records[i].image)))
      ∧ (∀ id : ModuleId, s.hostTakes tag 0x11 (idBytes id) →
          ((id = 0 ∨ id = 0xFFFFFFFFFFFFFFFF) → exec .findId s = .next (s.answered tag 0x11 .idInvalid []))
            ∧ (id ≠ 0 → id ≠ 0xFFFFFFFFFFFFFFFF →
                (∀ i : RecNo, s.lookup id = some i →
                  exec .findId s = .next (s.answered tag 0x11 .ok (BitVec.ofNat 8 i.val :: s.records[i].image)))
                ∧ (s.lookup id = none → exec .findId s = .next (s.answered tag 0x11 .notFound []))))
      ∧ (∀ a : Address, s.hostTakes tag 0x12 [a] →
          ((a = 0 ∨ 0xF0 ≤ a) → exec .findAddress s = .next (s.answered tag 0x12 .notFound [0x05]))
            ∧ (a ≠ 0 → a < 0xF0 →
                (∀ i : RecNo, s.pool.map[a.toFin] = .offered i ∨ s.pool.map[a.toFin] = .bound i →
                  exec .findAddress s = .next (s.answered tag 0x12 .ok (BitVec.ofNat 8 i.val :: s.records[i].image)))
                ∧ (s.pool.map[a.toFin] = .free → exec .findAddress s = .next (s.answered tag 0x12 .notFound [0x00]))
                ∧ (s.pool.map[a.toFin] = .held → exec .findAddress s = .next (s.answered tag 0x12 .notFound [0x01]))
                ∧ (s.pool.map[a.toFin] = .reserved →
                    exec .findAddress s = .next (s.answered tag 0x12 .notFound [0x02]))))

/-- The bucket of an ID is the low six bits of the XOR of its eight bytes. A placement takes the lowest EMPTY way of the
bucket, else its lowest RETIRED way, else none. With the bucket of every ID and the distinctness of IDs holding, lookup by ID
finds exactly the one record in PENDING, DORMANT, ACTIVE or STALE that holds the ID, wherever in the table it is (R1, R9,
R10). -/
def Obligations.LookupFindsTheRecord : Prop :=
  (∀ id : ModuleId, (bucketOf id).val = ((idBytes id).foldl (· ^^^ ·) 0x00).toNat % 64)
    ∧ (∀ (s : State) (id : ModuleId),
        let ways := fun i : RecNo => i.val / 4 = (bucketOf id).val
        (∀ i : RecNo, s.placementWay id = some i ↔ ways i
            ∧ ((s.records[i].state = .empty ∧ ∀ j : RecNo, ways j → j < i → s.records[j].state ≠ .empty)
              ∨ ((∀ j : RecNo, ways j → s.records[j].state ≠ .empty) ∧ s.records[i].state = .retired
                ∧ ∀ j : RecNo, ways j → j < i → s.records[j].state ≠ .retired)))
          ∧ (s.placementWay id = none ↔
              ∀ j : RecNo, ways j → s.records[j].state ≠ .empty ∧ s.records[j].state ≠ .retired))
    ∧ ∀ s : State, BucketsHold s → IdsDistinct s → ∀ (id : ModuleId) (i : RecNo),
    s.lookup id = some i ↔
      (s.records[i].state = .pending ∨ s.records[i].state = .dormant ∨ s.records[i].state = .active
        ∨ s.records[i].state = .stale) ∧ s.records[i].id = some id

/-- BIND_STATIC's checks, in the order of R22: the first that fails decides the answer, with nothing changed. -/
def Obligations.BindStaticChecks : Prop :=
  ∀ (s : State) (tag : Byte) (id : ModuleId) (a cls : Byte) (groups : GroupSet) (lease : Byte),
    s.hostTakes tag 0x13 (idBytes id ++ [a, cls] ++ bytes16 groups ++ [lease]) →
    let refused := fun st payload => exec .bindStatic s = .next (s.answered tag 0x13 st payload)
    ((id = 0 ∨ id = 0xFFFFFFFFFFFFFFFF) → refused .idInvalid [])
      ∧ (id ≠ 0 → id ≠ 0xFFFFFFFFFFFFFFFF →
          ((a = 0 ∨ 0xF0 ≤ a) → refused .addressInvalid [])
            ∧ (a ≠ 0 → a < 0xF0 →
                (lease = 0 → refused .badParameter [5])
                  ∧ (lease ≠ 0 →
                      (∀ i : RecNo, s.lookup id = some i → s.records[i].state ≠ .pending →
                          refused .exists_ (BitVec.ofNat 8 i.val :: s.records[i].image))
                        ∧ ((∀ i : RecNo, s.lookup id = some i → s.records[i].state = .pending) →
                            (∀ j : RecNo, (s.pool.map[a.toFin] = .bound j
                                  ∨ (s.pool.map[a.toFin] = .offered j ∧ s.lookup id ≠ some j)) →
                                refused .addressInUse [BitVec.ofNat 8 j.val])
                              ∧ (s.lookup id = none → (∀ j, s.pool.map[a.toFin] ≠ .bound j) →
                                  (∀ j, s.pool.map[a.toFin] ≠ .offered j) → s.placementWay id = none →
                                  refused .bucketFull [])))))

/-- BIND_STATIC of an ID that no record holds places a STATIC DORMANT record in the way that placement takes, reporting a
tombstone it overwrites with NOTICE_LOST (bit 2), and takes the address from where it stands; of an ID with a PENDING record
it withdraws the claim, keeps or returns the offered address, and converts the record in place (R22, R23). -/
def Obligations.BindStaticBinds : Prop :=
  ∀ (s : State) (tag : Byte) (id : ModuleId) (a cls : Byte) (groups : GroupSet) (lease : Byte),
    s.hostTakes tag 0x13 (idBytes id ++ [a, cls] ++ bytes16 groups ++ [lease]) →
    id ≠ 0 → id ≠ 0xFFFFFFFFFFFFFFFF → a ≠ 0 → a < 0xF0 → lease ≠ 0 → (∀ j, s.pool.map[a.toFin] ≠ .bound j) →
    (∀ i : RecNo, s.lookup id = none → (∀ j, s.pool.map[a.toFin] ≠ .offered j) → s.placementWay id = some i →
        ∃ t, exec .bindStatic s = .next t
          ∧ t = { s with
              engine := { s.engine with pointer := .host, attnCount := t.engine.attnCount }
              records := t.records, groups := t.groups, port := t.port
              pool := s.pool.take a (.bound i) }
          ∧ RecordBecomes s t i
              ⟨.static, .dormant, some id, some a, none, some cls, groups, some lease, 0, 0, 0, 1, none, none⟩
          ∧ t.port = { (s.answered tag 0x13 .ok (BitVec.ofNat 8 i.val :: t.records[i].image)).port with
              flags := if s.records[i].state = .retired then s.port.flags ||| 0x04 else s.port.flags })
      ∧ (∀ (i : RecNo) (k : SlotNo) (c : Claim), s.lookup id = some i → s.records[i].state = .pending →
          (∀ j, s.pool.map[a.toFin] = .offered j → j = i) → s.records[i].slot = some k → s.slots[k] = some c →
          ∃ t, exec .bindStatic s = .next t
            ∧ t = { s with
                engine := { s.engine with pointer := .host, attnCount := t.engine.attnCount }
                records := t.records, groups := t.groups
                slots := s.slots.set k none, due := s.due.filter (· != k)
                segs := (s.removeOffers c.nonce).segs
                pool := (if c.address = a then s.pool else s.pool.toHead c.address).take a (.bound i)
                port := (s.answered tag 0x13 .ok (BitVec.ofNat 8 i.val :: t.records[i].image)).port }
            ∧ RecordBecomes s t i
                ⟨.static, .dormant, some id, some a, none, some cls, groups, some lease, 0, s.records[i].conflicts,
                  s.records[i].attention, nextGeneration s.records[i].generation, none, none⟩)

/-- ADD_DENY answers ID_INVALID, EXISTS or BUCKET_FULL with nothing changed, places a DENIED DORMANT record for an ID that
no record holds, and converts a PENDING record in place, its claim withdrawn and its address at the head of the free list
(R24). -/
def Obligations.AddDenyBars : Prop :=
  ∀ (s : State) (tag : Byte) (id : ModuleId), s.hostTakes tag 0x14 (idBytes id) →
    ((id = 0 ∨ id = 0xFFFFFFFFFFFFFFFF) → exec .addDeny s = .next (s.answered tag 0x14 .idInvalid []))
      ∧ (id ≠ 0 → id ≠ 0xFFFFFFFFFFFFFFFF →
          (∀ i : RecNo, s.lookup id = some i → s.records[i].state ≠ .pending →
              exec .addDeny s = .next (s.answered tag 0x14 .exists_ (BitVec.ofNat 8 i.val :: s.records[i].image)))
            ∧ (s.lookup id = none → s.placementWay id = none →
                exec .addDeny s = .next (s.answered tag 0x14 .bucketFull []))
            ∧ (∀ i : RecNo, s.lookup id = none → s.placementWay id = some i →
                ∃ t, exec .addDeny s = .next t
                  ∧ t = { s with
                      engine := { s.engine with pointer := .host, attnCount := t.engine.attnCount }
                      records := t.records, groups := t.groups, port := t.port }
                  ∧ RecordBecomes s t i
                      ⟨.denied, .dormant, some id, none, none, none, 0, none, 0, 0, 0, 1, none, none⟩
                  ∧ t.port = { (s.answered tag 0x14 .ok (BitVec.ofNat 8 i.val :: t.records[i].image)).port with
                      flags := if s.records[i].state = .retired then s.port.flags ||| 0x04 else s.port.flags })
            ∧ (∀ (i : RecNo) (k : SlotNo) (c : Claim), s.lookup id = some i → s.records[i].state = .pending →
                s.records[i].slot = some k → s.slots[k] = some c →
                ∃ t, exec .addDeny s = .next t
                  ∧ t = { s with
                      engine := { s.engine with pointer := .host, attnCount := t.engine.attnCount }
                      records := t.records, groups := t.groups
                      slots := s.slots.set k none, due := s.due.filter (· != k)
                      segs := (s.removeOffers c.nonce).segs
                      pool := s.pool.toHead c.address
                      port := (s.answered tag 0x14 .ok (BitVec.ofNat 8 i.val :: t.records[i].image)).port }
                  ∧ RecordBecomes s t i
                      ⟨.denied, .dormant, some id, none, none, none, 0, none, 0, s.records[i].conflicts,
                        s.records[i].attention, nextGeneration s.records[i].generation, none, none⟩))

/-- EDIT_RECORD: its seven checks in the order of R25, the first that fails deciding the answer with nothing changed; then
all its items applied in one operation, the generation rising by one exactly when a field takes a different value, FFFFh
being followed by 0001h. For a zero lease together with PIN and UNPIN the manual does not say which of the two field numbers
answers (log entry 3): one of them does (R12, R13, R25, R26). -/
def Obligations.EditRecordChecksThenApplies : Prop :=
  (∀ g : BitVec 16, nextGeneration g = if g = 0xFFFF then 0x0001 else g + 1)
    ∧ ∀ (s : State) (tag : Byte) (i : RecNo) (expected : BitVec 16) (items cls : Byte) (groups : GroupSet) (lease : Byte),
    s.hostTakes tag 0x15
      ([BitVec.ofNat 8 i.val] ++ bytes16 expected ++ [items, cls] ++ bytes16 groups ++ [lease]) →
    let r := s.records[i]
    let bit := fun k => items.getLsbD k = true
    let refused := fun st payload => exec .editRecord s = .next (s.answered tag 0x15 st payload)
    (r.state = .empty → refused .wrongState [])
      ∧ (r.state ≠ .empty →
          (expected ≠ 0 → expected ≠ r.generation →
              refused .generationMismatch (BitVec.ofNat 8 i.val :: r.image))
            ∧ ((expected = 0 ∨ expected = r.generation) →
                (r.state = .pending ∨ r.state = .retired → refused .wrongState [])
                  ∧ (r.state ≠ .pending → r.state ≠ .retired →
                      (r.kind = .denied → (bit 0 ∨ bit 1 ∨ bit 2 ∨ bit 4 ∨ bit 5) → refused .wrongKind [])
                        ∧ ((r.kind = .denied → ¬bit 0 ∧ ¬bit 1 ∧ ¬bit 2 ∧ ¬bit 4 ∧ ¬bit 5) →
                            (bit 2 → lease = 0 → ¬(bit 4 ∧ bit 5) → refused .badParameter [6])
                              ∧ (bit 4 → bit 5 → ¬(bit 2 ∧ lease = 0) → refused .badParameter [3])
                              ∧ (bit 2 → lease = 0 → bit 4 → bit 5 →
                                  refused .badParameter [3] ∨ refused .badParameter [6])
                              ∧ (¬(bit 2 ∧ lease = 0) → ¬(bit 4 ∧ bit 5) →
                                  ((bit 4 ∧ r.kind = .static) ∨ (bit 5 ∧ r.kind = .dynamic) → refused .wrongKind [])
                                    ∧ (¬(bit 4 ∧ r.kind = .static) → ¬(bit 5 ∧ r.kind = .dynamic) →
                                        (bit 5 → r.state = .dormant → refused .wrongState [])
                                          ∧ (¬(bit 5 ∧ r.state = .dormant) →
                                              let new := { r with
                                                kind := if bit 4 then .static else if bit 5 then .dynamic else r.kind
                                                cls := if bit 0 then some cls else r.cls
                                                groups := if bit 1 then groups else r.groups
                                                lease := if bit 2 then some lease else r.lease
                                                conflicts := if bit 3 then 0 else r.conflicts }
                                              ∃ t, exec .editRecord s = .next t
                                                ∧ t = { s with
                                                    engine := { s.engine with
                                                      pointer := .host, attnCount := t.engine.attnCount }
                                                    records := t.records, groups := t.groups
                                                    port := (s.answered tag 0x15 .ok
                                                      (BitVec.ofNat 8 i.val :: t.records[i].image)).port }
                                                ∧ RecordBecomes s t i { new with
                                                    generation := if new = r then r.generation
                                                      else nextGeneration r.generation })))))))

/-- RETIRE_RECORD: NOT_FOUND, GENERATION_MISMATCH or BAD_PARAMETER 3 with nothing changed; otherwise the answer carries the
image as it stood, the record becomes EMPTY, and by its state: a PENDING record's claim is withdrawn; a live record's REVOKE
is placed on its segment (to the record's address, log entry 6) and its address released by the mode; a STATIC DORMANT
record's address is released by the mode; a DENIED or RETIRED record has no further effect (R13, R27, R28). -/
def Obligations.RetireRecordEnds : Prop :=
  ∀ (s : State) (tag : Byte) (i : RecNo) (expected : BitVec 16) (mode : Byte),
    s.hostTakes tag 0x16 ([BitVec.ofNat 8 i.val] ++ bytes16 expected ++ [mode]) →
    let r := s.records[i]
    let refused := fun st payload => exec .retireRecord s = .next (s.answered tag 0x16 st payload)
    (r.state = .empty → refused .notFound [])
      ∧ (r.state ≠ .empty → expected ≠ 0 → expected ≠ r.generation →
          refused .generationMismatch (BitVec.ofNat 8 i.val :: r.image))
      ∧ (r.state ≠ .empty → (expected = 0 ∨ expected = r.generation) → mode ≠ 0x00 → mode ≠ 0x01 →
          refused .badParameter [3])
      ∧ (r.state ≠ .empty → (expected = 0 ∨ expected = r.generation) → (mode = 0x00 ∨ mode = 0x01) →
          ∃ t, exec .retireRecord s = .next t
            ∧ t = { s with
                engine := { s.engine with pointer := .host, attnCount := t.engine.attnCount }
                records := t.records, groups := t.groups, slots := t.slots, due := t.due, segs := t.segs
                pool := t.pool
                port := (s.answered tag 0x16 .ok (BitVec.ofNat 8 i.val :: r.image)).port }
            ∧ RecordBecomes s t i Record.empty
            ∧ (∀ k c, r.state = .pending → r.slot = some k → s.slots[k] = some c →
                t.slots = s.slots.set k none ∧ t.due = s.due.filter (· != k)
                  ∧ t.segs = (s.removeOffers c.nonce).segs
                  ∧ t.pool = s.pool.toHead c.address)
            ∧ (r.state ≠ .pending → t.slots = s.slots ∧ t.due = s.due)
            ∧ (∀ id a n, r.state = .active ∨ r.state = .stale → r.id = some id → r.address = some a →
                r.segment = some n →
                t.segs = (s.place n a (.revoke id a)).segs
                  ∧ t.pool = if mode = 0x00 then s.pool.toHold s.config.holdPeriod a (some id) else s.pool.toTail a)
            ∧ (∀ a, r.state = .dormant → r.kind = .static → r.address = some a →
                t.segs = s.segs
                  ∧ t.pool = if mode = 0x00 then s.pool.toHold s.config.holdPeriod a r.id else s.pool.toTail a)
            ∧ ((r.state = .dormant ∧ r.kind ≠ .static) ∨ r.state = .retired → t.segs = s.segs ∧ t.pool = s.pool))

/-- COLLECT_ATTENTION reports the first record with a non-empty attention set, from the start index through 255 and on from
0, with the set as it stood; the set is emptied, or the record, when it was RETIRED. No other record, no address and no claim
changes; with no notice it answers NOT_FOUND (R29). -/
def Obligations.CollectAttentionReportsInOrder : Prop :=
  ∀ (s : State) (tag : Byte) (start : RecNo), s.hostTakes tag 0x17 [BitVec.ofNat 8 start.val] →
    ((∀ j : RecNo, s.records[j].attention = 0) →
        exec .collectAttention s = .next (s.answered tag 0x17 .notFound []))
      ∧ (∀ i : RecNo, s.records[i].attention ≠ 0 →
          (∀ j : RecNo, (j - start).val < (i - start).val → s.records[j].attention = 0) →
          ∃ t, exec .collectAttention s = .next t
            ∧ t = { s with
                engine := { s.engine with pointer := .host, attnCount := t.engine.attnCount }
                records := t.records, groups := t.groups
                port := (s.answered tag 0x17 .ok (BitVec.ofNat 8 i.val :: s.records[i].image)).port }
            ∧ RecordBecomes s t i
                (if s.records[i].state = .retired then Record.empty else { s.records[i] with attention := 0 }))

/-! ### Host commands on addresses -/

/-- RESERVE_ADDRESS takes a FREE or HELD address from its list into the reserved set, leaves a RESERVED one, and answers
ADDRESS_IN_USE for one a record holds; FREE_RESERVATION returns a RESERVED address to the tail of the free list and answers
WRONG_STATE with the state for any other. An address outside 01h..EFh is ADDRESS_INVALID for both (R46, R47). -/
def Obligations.ReservationsMoveAddresses : Prop :=
  ∀ (s : State) (tag : Byte) (a : Address),
    (s.hostTakes tag 0x20 [a] →
        ((a = 0 ∨ 0xF0 ≤ a) → exec .reserveAddress s = .next (s.answered tag 0x20 .addressInvalid []))
          ∧ (a ≠ 0 → a < 0xF0 →
              (s.pool.map[a.toFin] = .free ∨ s.pool.map[a.toFin] = .held →
                  exec .reserveAddress s = .next { s.answered tag 0x20 .ok [] with
                    pool :=
                      { map := s.pool.map.set a.toFin .reserved
                        free := s.pool.free.filter (· != a)
                        hold := s.pool.hold.filter (·.address != a) } })
                ∧ (s.pool.map[a.toFin] = .reserved → exec .reserveAddress s = .next (s.answered tag 0x20 .ok []))
                ∧ (∀ i : RecNo, s.pool.map[a.toFin] = .offered i ∨ s.pool.map[a.toFin] = .bound i →
                    exec .reserveAddress s = .next (s.answered tag 0x20 .addressInUse [BitVec.ofNat 8 i.val]))))
      ∧ (s.hostTakes tag 0x21 [a] →
          ((a = 0 ∨ 0xF0 ≤ a) → exec .freeReservation s = .next (s.answered tag 0x21 .addressInvalid []))
            ∧ (a ≠ 0 → a < 0xF0 →
                (s.pool.map[a.toFin] = .reserved →
                    exec .freeReservation s = .next { s.answered tag 0x21 .ok [] with pool := s.pool.toTail a })
                  ∧ (s.pool.map[a.toFin] = .free →
                      exec .freeReservation s = .next (s.answered tag 0x21 .wrongState [0x00]))
                  ∧ (s.pool.map[a.toFin] = .held →
                      exec .freeReservation s = .next (s.answered tag 0x21 .wrongState [0x01]))
                  ∧ (∀ i : RecNo, s.pool.map[a.toFin] = .offered i →
                      exec .freeReservation s = .next (s.answered tag 0x21 .wrongState [0x03]))
                  ∧ (∀ i : RecNo, s.pool.map[a.toFin] = .bound i →
                      exec .freeReservation s = .next (s.answered tag 0x21 .wrongState [0x04]))))

/-- READ_ADDRESS answers the state of any address with its position or record, former ID and ticks, and READ_LIST the entry
at a position with the length of its list, NOT_FOUND with the length, or BAD_PARAMETER 1; a field with no value reads 00h,
and neither command changes anything but the queues of the port (R49, R50, R190). -/
def Obligations.PoolReadsAnswer : Prop :=
  ∀ (s : State) (tag : Byte), PoolAgrees s →
    (∀ a : Address, s.hostTakes tag 0x22 [a] →
        let ans := fun payload => exec .readAddress s = .next (s.answered tag 0x22 .ok payload)
        (s.pool.map[a.toFin] = .invalid → ans ([0x05, 0x00] ++ List.replicate 10 0x00))
          ∧ (s.pool.map[a.toFin] = .reserved → ans ([0x02, 0x00] ++ List.replicate 10 0x00))
          ∧ (∀ p : Nat, s.pool.free[p]? = some a → ans ([0x00, BitVec.ofNat 8 p] ++ List.replicate 10 0x00))
          ∧ (∀ (p : Nat) (e : HoldEntry), s.pool.hold[p]? = some e → e.address = a →
              ans ([0x01, BitVec.ofNat 8 p] ++ (if e.former.isSome then 0x01 else 0x00) :: idBytes (e.former.getD 0)
                ++ [e.ticks]))
          ∧ (∀ i : RecNo, s.pool.map[a.toFin] = .offered i →
              ans ([0x03, BitVec.ofNat 8 i.val] ++ List.replicate 10 0x00))
          ∧ (∀ i : RecNo, s.pool.map[a.toFin] = .bound i →
              ans ([0x04, BitVec.ofNat 8 i.val] ++ List.replicate 10 0x00)))
      ∧ (∀ which position : Byte, s.hostTakes tag 0x23 [which, position] →
          let ans := fun st payload => exec .readList s = .next (s.answered tag 0x23 st payload)
          (which ≠ 0x00 → which ≠ 0x01 → ans .badParameter [1])
            ∧ (which = 0x00 → s.pool.free.length ≤ position.toNat →
                ans .notFound [BitVec.ofNat 8 s.pool.free.length])
            ∧ (∀ a, which = 0x00 → s.pool.free[position.toNat]? = some a →
                ans .ok ([BitVec.ofNat 8 s.pool.free.length, a] ++ List.replicate 10 0x00))
            ∧ (which = 0x01 → s.pool.hold.length ≤ position.toNat →
                ans .notFound [BitVec.ofNat 8 s.pool.hold.length])
            ∧ (∀ e, which = 0x01 → s.pool.hold[position.toNat]? = some e →
                ans .ok ([BitVec.ofNat 8 s.pool.hold.length, e.address]
                  ++ (if e.former.isSome then 0x01 else 0x00) :: idBytes (e.former.getD 0) ++ [e.ticks])))

/-! ### Host commands: modes, flush and settings -/

/-- SET_MODE: RUN starts HALTED running and changes nothing else; HALT withdraws every claim, abandons the sweep and its owed
ticks, and answers the number of claims withdrawn; in the mode asked for each answers the mode and changes nothing; any other
argument is BAD_PARAMETER, whichever of the two rows takes it (log entry 14). In FLUSHING a SET_MODE waits and is never
taken; that one taken there, in a state that no run reaches, would answer the mode FLUSHING and change nothing is the
model's choice (log entry 18) (R59, R60, R61, R124). -/
def Obligations.SetModeRunsAndHalts : Prop :=
  ∀ (s : State) (tag arg : Byte), s.hostTakes tag 0x30 [arg] →
    (arg = 0x01 →
        (s.engine.mode = .halted → exec .setModeRun s =
            .next { s.answered tag 0x30 .ok [0x01, 0x00] with
              engine := { s.engine with pointer := .host, mode := .running } })
          ∧ (s.engine.mode = .running → exec .setModeRun s = .next (s.answered tag 0x30 .ok [0x01, 0x00]))
          ∧ (s.engine.mode = .flushing → exec .setModeRun s = .next (s.answered tag 0x30 .ok [0x02, 0x00])))
      ∧ (arg = 0x02 →
          (s.engine.mode = .running →
              let w := State.withdrawAll { s with engine := { s.engine with pointer := .host } }
              let count := (List.finRange 8).countP fun k : SlotNo => s.slots[k].isSome
              exec .setModeHalt s = .next { w with
                engine := { w.engine with mode := .halted, sweeping := false, sweepNext := .holdList, owed := 0 }
                port := (s.answered tag 0x30 .ok [0x00, BitVec.ofNat 8 count]).port })
            ∧ (s.engine.mode = .halted → exec .setModeHalt s = .next (s.answered tag 0x30 .ok [0x00, 0x00]))
            ∧ (s.engine.mode = .flushing → exec .setModeHalt s = .next (s.answered tag 0x30 .ok [0x02, 0x00])))
      ∧ (arg ≠ 0x01 → arg ≠ 0x02 → ∀ c ∈ [Instr.setModeRun, .setModeHalt],
          exec c s = .next (s.answered tag 0x30 .badParameter [1]))

/-- FLUSH_DYNAMIC answers WRONG_MODE in HALTED; in RUNNING it withdraws every claim, sets the flush to record 0 with none
emptied, and stays at the head of the queue marked as taken, with no response. A flush step empties its record when it is a
live DYNAMIC one, its address going to the tail of the free list and the count rising by one, and leaves any other as it
stands. Before record 255 the next record follows; the step of record 255 ends the flush: a REANNOUNCE to FFh is placed on
every segment, the mode becomes RUNNING, an owed tick starts a sweep, and the request at the head, which is the FLUSH_DYNAMIC
in every state where the modes agree, is answered OK with the count and leaves its queue (R56, R62, R63, R64, R115). -/
def Obligations.FlushRunsToItsEnd : Prop :=
  (∀ (s : State) (tag : Byte), s.hostTakes tag 0x31 [] →
      (s.engine.mode = .halted → exec .flushDynamic s = .next (s.answered tag 0x31 .wrongMode []))
        ∧ (s.engine.mode = .running →
            let w := State.withdrawAll { s with engine := { s.engine with pointer := .host } }
            exec .flushDynamic s = .next { w with
              engine := { w.engine with mode := .flushing, flushing := true, flushNext := 0, emptied := 0 }
              port := { s.port with requests := ⟨tag, 0x31, [], true⟩ :: s.port.requests.tail } }))
    ∧ ∀ (s : State) (i : RecNo), s.granted = some (.flushStep i) →
      let r := s.records[i]
      let hit := r.kind = .dynamic ∧ (r.state = .active ∨ r.state = .stale)
      ∃ u t, exec .flushStep s = .next t
        ∧ u = { s with
            engine := { s.engine with pointer := .timer, attnCount := u.engine.attnCount, emptied := u.engine.emptied }
            records := u.records, groups := u.groups, pool := u.pool }
        ∧ (hit → RecordBecomes s u i Record.empty ∧ u.engine.emptied = s.engine.emptied + 1
            ∧ ∀ a, r.address = some a → u.pool = s.pool.toTail a)
        ∧ (¬hit → u = { s with engine := { s.engine with pointer := .timer } })
        ∧ (i ≠ 255 → t = { u with engine := { u.engine with flushNext := i + 1 } })
        ∧ (i = 255 →
            t = { u with
                engine := { u.engine with
                  mode := .running, flushing := false, flushNext := 0, sweeping := decide (0 < s.engine.owed)
                  sweepNext := if 0 < s.engine.owed then .holdList else s.engine.sweepNext
                  owed := s.engine.owed - 1 }
                segs := t.segs, port := t.port }
              ∧ (∀ n : SegNo, t.segs[n] = (s.place n 0xFF .reannounce).segs[n])
              ∧ ∀ q rest, s.port.requests = q :: rest → t.port = { s.port with
                  requests := rest
                  responses := s.port.responses
                    ++ [⟨q.tag, q.command, .ok, bytes16 (BitVec.ofNat 16 u.engine.emptied)⟩] })

/-- CONFIGURE is taken in HALTED alone. The first parameter out of its range is answered with its number and nothing
changes; otherwise all take their values, and the timebase starts afresh when REF_KHZ or TICK_PERIOD changes (R66, R67). -/
def Obligations.ConfigureChecksAndSets : Prop :=
  ∀ (s : State) (tag : Byte) (khz : BitVec 16) (tick lease stale hold offer hint policy low high : Byte)
    (groups : GroupSet),
    s.hostTakes tag 0x32 (bytes16 khz ++ [tick, lease, stale, hold, offer, hint, policy, low, high] ++ bytes16 groups) →
    let checks : List (Bool × Byte) :=
      [(1000 ≤ khz.toNat ∧ khz.toNat ≤ 50000, 1), (tick ≠ 0, 2), (lease ≠ 0, 3), (stale ≠ 0, 4), (offer ≠ 0, 6),
       (hint ≠ 0, 7), (policy = 0x00 ∨ policy = 0x01, 8), (0x01 ≤ low ∧ low ≤ high ∧ high ≤ 0xEF, 9)]
    (s.engine.mode ≠ .halted → exec .configure s = .next (s.answered tag 0x32 .wrongMode []))
      ∧ (s.engine.mode = .halted →
          (∀ c, checks.find? (fun c => !c.1) = some c →
              exec .configure s = .next (s.answered tag 0x32 .badParameter [c.2]))
            ∧ ((∀ c ∈ checks, c.1 = true) → exec .configure s = .next { s.answered tag 0x32 .ok [] with
                config :=
                  { refKhz := khz, tickPeriod := tick, defaultLease := lease, staleWindow := stale, holdPeriod := hold
                    offerWindow := offer, retryHint := hint
                    defaultPolicy := if policy = 0x01 then .permit else .deny
                    rangeLow := low, rangeHigh := high, defaultGroups := groups }
                aging := if khz = s.config.refKhz ∧ tick = s.config.tickPeriod then s.aging else ⟨0, 0⟩ }))

/-- READ_CONFIG, READ_RULE, READ_GROUP, READ_CLAIM and READ_SEGMENT answer the settings and the state they name, field by
field, an index out of range with BAD_PARAMETER 1, and change nothing; the flag byte of a present class override is some
non-zero byte there (log entry 4), and bits 7..4 of a mask byte read 0 by the model's choice (log entry 5) (R68, R76, R86,
R111, R151, R190). -/
def Obligations.SettingsReadBack : Prop :=
  ∀ (s : State) (tag : Byte),
    (s.hostTakes tag 0x33 [] → ∃ f : Byte,
        f.getLsbD 0 = s.engine.sweeping ∧ f.getLsbD 1 = (s.engine.sweepNext != .holdList)
          ∧ f.getLsbD 2 = s.engine.flushing
          ∧ exec .readConfig s = .next (s.answered tag 0x33 .ok
              (bytes16 s.config.refKhz
                ++ [s.config.tickPeriod, s.config.defaultLease, s.config.staleWindow, s.config.holdPeriod,
                    s.config.offerWindow, s.config.retryHint, if s.config.defaultPolicy = .permit then 0x01 else 0x00,
                    s.config.rangeLow, s.config.rangeHigh]
                ++ bytes16 s.config.defaultGroups
                ++ [(match s.engine.mode with | .halted => 0x00 | .running => 0x01 | .flushing => 0x02 : Byte)]
                ++ bytes16 s.engine.nonce
                ++ [f, (match s.engine.sweepNext with | .holdList => 0x00 | .visit i => BitVec.ofNat 8 i.val : Byte),
                    BitVec.ofNat 8 s.engine.owed, BitVec.ofNat 8 s.engine.flushNext.val]
                ++ bytes16 (BitVec.ofNat 16 s.engine.emptied))))
      ∧ (∀ b : Byte, s.hostTakes tag 0x41 [b] →
          (16 ≤ b.toNat → exec .readRule s = .next (s.answered tag 0x41 .badParameter [1]))
            ∧ ∀ k : RuleNo, b.toNat = k.val → ∃ payload, CarriesRule k s.rules[k] payload
                ∧ exec .readRule s = .next (s.answered tag 0x41 .ok payload))
      ∧ (∀ b : Byte, s.hostTakes tag 0x43 [b] →
          (16 ≤ b.toNat → exec .readGroup s = .next (s.answered tag 0x43 .badParameter [1]))
            ∧ ∀ g : GroupNo, b.toNat = g.val → exec .readGroup s = .next (s.answered tag 0x43 .ok
                ([b, if s.groups[g].enabled then 0x01 else 0x00, s.groups[g].mask.setWidth 8]
                  ++ bytes16 (BitVec.ofNat 16 s.groups[g].members))))
      ∧ (∀ b : Byte, s.hostTakes tag 0x50 [b] →
          (8 ≤ b.toNat → exec .readClaim s = .next (s.answered tag 0x50 .badParameter [1]))
            ∧ ∀ k : SlotNo, b.toNat = k.val →
                (s.slots[k] = none →
                    exec .readClaim s = .next (s.answered tag 0x50 .ok (b :: List.replicate 23 0x00)))
                  ∧ ∀ c, s.slots[k] = some c → exec .readClaim s = .next (s.answered tag 0x50 .ok
                      ([b, if c.phase = .sending then 0x01 else 0x02, BitVec.ofNat 8 c.record.val] ++ idBytes c.id
                        ++ [BitVec.ofNat 8 c.segment.val, c.replyTo, c.address] ++ bytes16 c.nonce
                        ++ [BitVec.ofNat 8 c.repeats, BitVec.ofNat 8 c.declines] ++ bytes16 (BitVec.ofNat 16 c.window)
                        ++ [c.low, c.high] ++ bytes16 c.groups)))
      ∧ (∀ b : Byte, s.hostTakes tag 0x61 [b] →
          (4 ≤ b.toNat → exec .readSegment s = .next (s.answered tag 0x61 .badParameter [1]))
            ∧ ∀ n : SegNo, b.toNat = n.val →
                exec .readSegment s = .next (s.answered tag 0x61 .ok (s.segmentImage n)))
      ∧ ∀ n : SegNo, ∃ f : Byte,
          let c := s.segs[n]
          f.getLsbD 0 = c.faultNotice ∧ f.getLsbD 1 = c.rxError ∧ f.getLsbD 2 = c.overflow
            ∧ s.segmentImage n =
                [BitVec.ofNat 8 n.val,
                  match c.state with | .disabled => 0x00 | .listening => 0x01 | .hushed => 0x02 | .fault => 0x03,
                  match c.receiver with | .off => 0x00 | .gap => 0x01 | .ready => 0x02 | .receiving => 0x03,
                  match c.transmitter with | .idle => 0x00 | .sending => 0x01 | .backoff _ => 0x02,
                  BitVec.ofNat 8 c.rx.length, BitVec.ofNat 8 c.tx.length,
                  match c.tx with | [] => 0x00 | e :: _ => BitVec.ofNat 8 e.attempts,
                  BitVec.ofNat 8 c.notices.length, f,
                  if c.state = .listening ∨ c.state = .hushed then 0x01 else 0x00,
                  match c.bitRate with | .k62 => 0x00 | .k125 => 0x01 | .k250 => 0x02 | .k500 => 0x03,
                  if s.policy[n].learning then 0x01 else 0x00, if s.policy[n].acceptMoves then 0x00 else 0x01,
                  s.policy[n].visible.setWidth 8]

/-- WRITE_RULE checks its fields in order, answering the number of the first that fails with nothing changed; WRITE_GROUP
answers a group above 15 with field 1 and a bad enabled value with field 2, and for both at once the manual does not say
which of the two numbers answers (log entry 21): one of them does; a rule written with valid NO is cleared, and its other
fields are not checked; otherwise the rule or the group's two settings take their values, the members of the group staying
as they are, and the answer reads the slot back; the flag byte of a present class override is some non-zero byte there (log
entry 4), and bits 7..4 of a mask byte read 0 by the model's choice (log entry 5) (R74, R75, R85, R189). -/
def Obligations.RulesAndGroupsAreWritten : Prop :=
  (∀ (s : State) (tag slot valid action length : Byte) (value : ModuleId) (segments f cls : Byte) (groups : GroupSet)
      (low high lease : Byte),
      s.hostTakes tag 0x40 ([slot, valid, action, length] ++ idBytes value ++ [segments, f, cls] ++ bytes16 groups
        ++ [low, high, lease]) →
      let checks : List (Bool × Byte) :=
        ([(slot.toNat < 16, 1), (valid = 0x00 ∨ valid = 0x01, 2)] : List (Bool × Byte))
          ++ (if valid = 0x00 then [] else
            ([(action = 0x00 ∨ action = 0x01, 3), (length.toNat ≤ 64, 4),
             (∀ k : Fin 64, length.toNat ≤ k.val → value.getMsbD k.val = false, 5), (0x01 ≤ low ∧ low ≤ 0xEF, 9),
             (low ≤ high ∧ high ≤ 0xEF, 10), (lease ≠ 0, 11)] : List (Bool × Byte)))
      (∀ c, checks.find? (fun c => !c.1) = some c →
          exec .writeRule s = .next (s.answered tag 0x40 .badParameter [c.2]))
        ∧ ((∀ c ∈ checks, c.1 = true) → ∀ k : RuleNo, slot.toNat = k.val →
            let rule : Rule :=
              if valid = 0x00 then ⟨false, .permit, 0, 0, 0, none, 0, 0x01, 0xEF, 60⟩
              else ⟨true, if action = 0x00 then .permit else .deny, length, value, segments.setWidth 4,
                if f = 0x00 then none else some cls, groups, low, high, lease⟩
            ∃ payload, CarriesRule k rule payload
              ∧ exec .writeRule s = .next { s.answered tag 0x40 .ok payload with rules := s.rules.set k rule }))
    ∧ ∀ (s : State) (tag group enable mask : Byte), s.hostTakes tag 0x42 [group, enable, mask] →
      (16 ≤ group.toNat → enable = 0x00 ∨ enable = 0x01 →
          exec .writeGroup s = .next (s.answered tag 0x42 .badParameter [1]))
        ∧ (16 ≤ group.toNat → enable ≠ 0x00 → enable ≠ 0x01 →
            ∃ field : Byte, (field = 1 ∨ field = 2)
              ∧ exec .writeGroup s = .next (s.answered tag 0x42 .badParameter [field]))
        ∧ (group.toNat < 16 → enable ≠ 0x00 → enable ≠ 0x01 →
            exec .writeGroup s = .next (s.answered tag 0x42 .badParameter [2]))
        ∧ ∀ g : GroupNo, group.toNat = g.val → enable = 0x00 ∨ enable = 0x01 →
            exec .writeGroup s = .next { s.answered tag 0x42 .ok
                ([group, enable, mask &&& 0x0F] ++ bytes16 (BitVec.ofNat 16 s.groups[g].members)) with
              groups := s.groups.set g
                { s.groups[g] with enabled := decide (enable = 0x01), mask := mask.setWidth 4 } }

/-- SEGMENT_CONTROL checks its fields in order, answering the number of the first that fails, and refuses another bit rate
on an enabled segment that stays enabled with WRONG_STATE; then it acts: the flags cleared when asked, the segment disabled
(its claims withdrawn, its queues discarded), the policy and the bit rate set with the own segment added to the mask, and
the segment enabled from DISABLED or FAULT (R69, R148, R149, R150). -/
def Obligations.SegmentControlActs : Prop :=
  ∀ (s : State) (tag segment enable learning refuse visible rate clear : Byte),
    s.hostTakes tag 0x60 [segment, enable, learning, refuse, visible, rate, clear] →
    let flag := fun b : Byte => decide (b = 0x00 ∨ b = 0x01)
    let checks : List (Bool × Byte) :=
      [(segment.toNat < 4, 1), (flag enable, 2), (flag learning, 3), (flag refuse, 4), (rate.toNat < 4, 6),
       (flag clear, 7)]
    let rateOf : BitRate := if rate = 0 then .k62 else if rate = 1 then .k125 else if rate = 2 then .k250 else .k500
    (∀ c, checks.find? (fun c => !c.1) = some c →
        exec .segmentControl s = .next (s.answered tag 0x60 .badParameter [c.2]))
      ∧ ((∀ c ∈ checks, c.1 = true) → ∀ n : SegNo, segment.toNat = n.val →
          let c := s.segs[n]
          let up := c.state = .listening ∨ c.state = .hushed
          let wrong := enable = 0x01 ∧ up ∧ rateOf ≠ c.bitRate
          (wrong → exec .segmentControl s = .next (s.answered tag 0x60 .wrongState []))
            ∧ (¬wrong → ∃ w t, exec .segmentControl s = .next t
                ∧ t = { w with
                    engine := { w.engine with pointer := .host }
                    policy := s.policy.set n
                      ⟨decide (learning = 0x01), decide (refuse = 0x00), visible.setWidth 4 ||| BitVec.twoPow 4 n.val⟩
                    segs := w.segs.set n t.segs[n]
                    port := (s.answered tag 0x60 .ok (t.segmentImage n)).port }
                ∧ (enable = 0x00 → c.state ≠ .disabled → w = s.withdrawSegment n
                    ∧ t.segs[n] = ⟨.disabled, .off, .idle, .off, [], [], [], false,
                        c.rxError && clear == 0x00, c.overflow && clear == 0x00, rateOf, []⟩)
                ∧ ((enable = 0x00 ∧ c.state = .disabled) ∨ (enable = 0x01 ∧ up) → w = s
                    ∧ t.segs[n] = { c with
                        rxError := c.rxError && clear == 0x00, overflow := c.overflow && clear == 0x00
                        bitRate := rateOf })
                ∧ (enable = 0x01 → ¬up → w = (if c.faultNotice then s.withdrawSegment n else s)
                    ∧ t.segs[n] = ⟨.listening, .gap, .idle, .measuring, [], [], [], false, false, false, rateOf, []⟩)))

/-! ### Shared operations: pool, withdrawal, placement -/

/-- The four moves of the pool, on a pool whose lists and map agree, for an assignable address: each leaves the lists and the
map agreeing, takes the address out of the list it stood on with the others in their order, and puts it where it says: in no
list, at the head or at the tail of the free list, or at the tail of the hold list; a full hold list first releases its
oldest entry to the tail of the free list, and HOLD_PERIOD 0 sends the address there instead (R32 to R36, R38). -/
def Obligations.PoolMovesKeepAgreement : Prop :=
  ∀ (p : Pool) (a : Address), p.agrees → 0x01 ≤ a → a ≤ 0xEF →
    let free' := p.free.filter (· != a)
    let hold' := p.hold.filter (·.address != a)
    (∀ place, place ≠ .free → place ≠ .held → place ≠ .invalid →
        (p.take a place).agrees ∧ p.take a place = ⟨p.map.set a.toFin place, free', hold'⟩)
      ∧ (p.toHead a).agrees ∧ p.toHead a = ⟨p.map.set a.toFin .free, a :: free', hold'⟩
      ∧ (p.toTail a).agrees ∧ p.toTail a = ⟨p.map.set a.toFin .free, free' ++ [a], hold'⟩
      ∧ ∀ (period : Byte) (former : Option ModuleId),
          (p.toHold period a former).agrees
            ∧ (period = 0 → p.toHold period a former = p.toTail a)
            ∧ (period ≠ 0 → hold'.length < 32 →
                p.toHold period a former = ⟨p.map.set a.toFin .held, free', hold' ++ [⟨a, former, period⟩]⟩)
            ∧ (∀ e rest, period ≠ 0 → hold' = e :: rest → rest.length = 31 →
                p.toHold period a former = ⟨(p.map.set e.address.toFin .free).set a.toFin .held, free' ++ [e.address],
                  rest ++ [⟨a, former, period⟩]⟩)

/-- Withdrawal of one claim frees its slot, stops its window with any expiry due, removes its unstarted OFFERs from every
transmit queue, returns its address to the head of the free list and empties its record (R91, R92, R110, R162). Withdrawal of
several, over tables that agree, leaves every other slot, record and address as it was, and the addresses stand at the head
of the free list in ascending slot order (R33). -/
def Obligations.WithdrawalReturnsClaims : Prop :=
  (∀ (s : State) (nonce : BitVec 16), ∃ u, s.removeOffers nonce = u ∧ u = { s with segs := u.segs }
      ∧ ∀ n : SegNo, u.segs[n] =
          if s.segs[n].state = .listening ∨ s.segs[n].state = .hushed then
            { s.segs[n] with tx := s.segs[n].tx.filter fun e =>
                !(e.attempts == 0 && e.message.offerNonce == some nonce) }
          else s.segs[n])
    ∧ (∀ s : State, s.withdrawAll = s.withdrawWhere fun _ => true)
    ∧ (∀ (s : State) (n : SegNo), s.withdrawSegment n = s.withdrawWhere fun c => c.segment == n)
    ∧ (∀ (s : State) (k : SlotNo) (c : Claim), s.slots[k] = some c →
      ∃ t, s.withdraw k = t
        ∧ t = { s with
            engine := { s.engine with attnCount := t.engine.attnCount }
            records := t.records, groups := t.groups
            slots := s.slots.set k none, due := s.due.filter (· != k)
            segs := (s.removeOffers c.nonce).segs
            pool := s.pool.toHead c.address }
        ∧ RecordBecomes s t c.record Record.empty)
    ∧ ∀ (s : State) (p : Claim → Bool), TablesAgree s →
      ∃ t, s.withdrawWhere p = t
        ∧ t = { s with
            engine := { s.engine with attnCount := t.engine.attnCount }
            records := t.records, slots := t.slots, due := t.due, segs := t.segs, pool := t.pool }
        ∧ (AttentionExact s → AttentionExact t)
        ∧ (∀ k : SlotNo, t.slots[k] = s.slots[k].filter fun c => !p c)
        ∧ t.due = s.due.filter (fun k => !s.slots[k].any p)
        ∧ (∀ i : RecNo, (∃ k : SlotNo, ∃ c, s.slots[k] = some c ∧ p c = true ∧ c.record = i) →
            t.records[i] = Record.empty)
        ∧ (∀ i : RecNo, (∀ k : SlotNo, ∀ c, s.slots[k] = some c → p c = true → c.record ≠ i) →
            t.records[i] = s.records[i])
        ∧ (let back := (List.finRange 8).filterMap fun k : SlotNo => (s.slots[k].filter p).map (·.address);
            t.pool.free = back ++ s.pool.free ∧ t.pool.hold = s.pool.hold
              ∧ ∀ a : Address, t.pool.map[a.toFin] = if a ∈ back then .free else s.pool.map[a.toFin])
        ∧ ∀ n : SegNo, t.segs[n] =
            if s.segs[n].state = .listening ∨ s.segs[n].state = .hushed then
              { s.segs[n] with tx := s.segs[n].tx.filter fun e =>
                  !(e.attempts == 0 && (List.finRange 8).any fun k : SlotNo =>
                    s.slots[k].any fun c => p c && e.message.offerNonce == some c.nonce) }
            else s.segs[n]

/-- Allocation takes the preferred address when it is FREE and in range, or HELD with the module's ID as former ID; then
the first entry of the free list in range, then the first of the hold list in range, and otherwise nothing; after a DECLINE
it takes the last two steps alone, past the address declined. What it yields is FREE or HELD (R40, R41, R42). -/
def Obligations.AllocationTakesFirstInRange : Prop :=
  ∀ (p : Pool), p.agrees → ∀ (low high : Address) (id : ModuleId) (pref declined : Address),
    let fits := fun a : Address => low ≤ a ∧ a ≤ high
    let preferredFree := pref ∈ p.free ∧ fits pref
    let formerlyHeld := ∃ e ∈ p.hold, e.address = pref ∧ e.former = some id
    (preferredFree ∨ formerlyHeld → p.allocateFirst low high id pref = some pref)
      ∧ (¬preferredFree → ¬formerlyHeld →
          (∀ before a after, p.free = before ++ a :: after → fits a → (∀ b ∈ before, ¬fits b) →
              p.allocateFirst low high id pref = some a)
            ∧ (∀ before e after, (∀ b ∈ p.free, ¬fits b) → p.hold = before ++ e :: after → fits e.address →
                (∀ b ∈ before, ¬fits b.address) → p.allocateFirst low high id pref = some e.address)
            ∧ ((∀ b ∈ p.free, ¬fits b) → (∀ b ∈ p.hold, ¬fits b.address) → p.allocateFirst low high id pref = none))
      ∧ (∀ before a after, p.free = before ++ a :: after → fits a → a ≠ declined →
          (∀ b ∈ before, fits b → b = declined) → p.allocateAgain low high declined = some a)
      ∧ (∀ before e after, (∀ b ∈ p.free, fits b → b = declined) → p.hold = before ++ e :: after → fits e.address →
          e.address ≠ declined → (∀ b ∈ before, fits b.address → b.address = declined) →
          p.allocateAgain low high declined = some e.address)
      ∧ ((∀ b ∈ p.free, fits b → b = declined) → (∀ b ∈ p.hold, fits b.address → b.address = declined) →
          p.allocateAgain low high declined = none)
      ∧ ∀ a, p.allocateFirst low high id pref = some a ∨ p.allocateAgain low high declined = some a →
          p.map[a.toFin] = .free ∨ p.map[a.toFin] = .held

/-- A message placed on an enabled segment joins the tail of its transmit queue, or sets OVERFLOW when the queue holds 6; on
a segment that is down it has no effect. A frame taken leaves the receive queue, and HUSH is released (R96, R156, R157). -/
def Obligations.PlacementAndTaking : Prop :=
  (∀ (s : State) (n : SegNo) (dest : Address) (m : Message),
      let c := s.segs[n]
      let up := c.state = .listening ∨ c.state = .hushed
      (up → c.tx.length < 6 →
          s.place n dest m = { s with segs := s.segs.set n { c with tx := c.tx ++ [⟨dest, m, 0⟩] } })
        ∧ (up → 6 ≤ c.tx.length → s.place n dest m = { s with segs := s.segs.set n { c with overflow := true } })
        ∧ (¬up → s.place n dest m = s))
    ∧ ∀ (s : State) (n : SegNo) (f : RxFrame) (rest : List RxFrame), s.segs[n].rx = f :: rest →
      (s.segs[n].state = .listening ∨ s.segs[n].state = .hushed) →
      s.takeFrame n = { s with
        engine := { s.engine with pointer := .seg n }
        segs := s.segs.set n { s.segs[n] with rx := rest, state := .listening } }

/-! ### Frames: the claim protocol -/

/-- An ANNOUNCE is refused with the first reason that holds: HALTED and BUSY with the retry hint, by mode; for an ID that no
record holds, NOT_ADMITTED with learning off, DENIED by the first rule that matches, NOT_ADMITTED by the default policy, and
then, once admitted, CLAIMS_FULL with the retry hint, TABLE_FULL and NO_ADDRESS. Nothing else changes (R77, R78, R79, R97,
R102). -/
def Obligations.AnnounceRefused : Prop :=
  ∀ (s : State) (n : SegNo) (source : Address) (id : ModuleId) (cls pref : Byte),
    s.segTakes n source (.announce id cls pref) →
    let refused := fun why hint =>
      exec (.announce n) s = .next ((s.takeFrame n).place n source (.refuse id why hint))
    (s.engine.mode = .halted → refused .halted s.config.retryHint)
      ∧ (s.engine.mode = .flushing → refused .busy s.config.retryHint)
      ∧ (s.engine.mode = .running → s.lookup id = none →
          (s.policy[n].learning = false → refused .notAdmitted 0)
            ∧ (s.policy[n].learning = true →
                (∀ k : RuleNo, s.firstCovers n id k → s.rules[k].action = .deny → refused .denied 0)
                  ∧ (s.noneCovers n id → s.config.defaultPolicy = .deny → refused .notAdmitted 0))
            ∧ ∀ d : Terms, s.admits n id cls d →
                ((∀ k : SlotNo, s.slots[k] ≠ none) → refused .claimsFull s.config.retryHint)
                  ∧ (∀ k : SlotNo, s.slots[k] = none →
                      (s.placementWay id = none → refused .tableFull 0)
                        ∧ (s.placementWay id ≠ none → s.pool.allocateFirst d.low d.high id pref = none →
                            refused .noAddress 0)))

/-- An ANNOUNCE that is admitted and passes the checks creates a claim in the lowest free slot: a PENDING record on the
terms of admission, in the way that placement takes, with generation 1; the address allocated, OFFERED to it; the slot, with
the nonce drawn; and the OFFER at the tail of the segment's transmit queue. With no room for the OFFER it has no effect but
OVERFLOW (R43, R70, R80, R96, R102, R103). -/
def Obligations.AnnounceCreatesClaim : Prop :=
  ∀ (s : State) (n : SegNo) (source : Address) (id : ModuleId) (cls pref : Byte) (d : Terms) (k : SlotNo) (i : RecNo)
    (a : Address),
    s.segTakes n source (.announce id cls pref) → s.engine.mode = .running → s.lookup id = none → s.admits n id cls d →
    s.slots[k] = none → (∀ j : SlotNo, j < k → s.slots[j] ≠ none) → s.placementWay id = some i →
    s.pool.allocateFirst d.low d.high id pref = some a →
    let u := s.takeFrame n
    let offer : Message := .offer id s.engine.nonce a
    (s.hasRoom n →
        ∃ t, exec (.announce n) s = .next t
          ∧ t = { u with
              engine := { u.engine with
                nonce := if s.engine.nonce = 0xFFFF then 1 else s.engine.nonce + 1, attnCount := t.engine.attnCount }
              records := t.records, groups := t.groups
              slots := s.slots.set k (some ⟨.sending, i, id, n, a, s.engine.nonce, 0, 0,
                s.config.offerWindow.toNat * 10, d.low, d.high, d.groups, source⟩)
              pool := s.pool.take a (.offered i)
              segs := (u.place n source offer).segs
              port := { s.port with
                flags := if s.records[i].state = .retired then s.port.flags ||| 0x04 else s.port.flags } }
          ∧ RecordBecomes s t i
              ⟨.dynamic, .pending, some id, some a, some n, some d.cls, 0, some d.lease, 0, 0, 0, 1, d.rule, some k⟩)
      ∧ (¬s.hasRoom n → exec (.announce n) s = .next (u.place n source offer))

/-- An ANNOUNCE for a PENDING record puts the OFFER of its claim again, unstarted copies removed, on the arrival segment,
which becomes the segment of slot and record, with a full window not yet running; after three repeats the claim is withdrawn
and OFFER_LIMIT answers. With no room for the answer there is no effect but OVERFLOW (R95, R96, R101). -/
def Obligations.RepeatAnnounceOffersAgain : Prop :=
  ∀ (s : State) (n : SegNo) (source : Address) (id : ModuleId) (cls pref : Byte) (i : RecNo) (k : SlotNo) (c : Claim),
    s.segTakes n source (.announce id cls pref) → s.engine.mode = .running → s.lookup id = some i →
    s.records[i].kind = .dynamic → s.records[i].state = .pending → s.records[i].slot = some k → s.slots[k] = some c →
    c.record = i → c.id = id →
    let u := s.takeFrame n
    let v := u.removeOffers c.nonce
    let offer : Message := .offer id c.nonce c.address
    let limit : Message := .refuse id .offerLimit 0
    (c.repeats < 3 →
        (v.hasRoom n →
            ∃ t, exec (.announce n) s = .next t
              ∧ t = { u with
                  engine := { u.engine with attnCount := t.engine.attnCount }
                  records := t.records, groups := t.groups
                  slots := s.slots.set k (some { c with
                    phase := .sending, repeats := c.repeats + 1, segment := n, replyTo := source
                    window := s.config.offerWindow.toNat * 10 })
                  due := s.due.filter (· != k)
                  segs := (v.place n source offer).segs }
              ∧ RecordBecomes s t i { s.records[i] with
                  segment := some n
                  generation := if s.records[i].segment = some n then s.records[i].generation
                    else nextGeneration s.records[i].generation })
          ∧ (¬v.hasRoom n → exec (.announce n) s = .next (u.place n source offer)))
      ∧ (3 ≤ c.repeats →
          (v.hasRoom n → exec (.announce n) s = .next ((u.withdraw k).place n source limit))
            ∧ (¬v.hasRoom n → exec (.announce n) s = .next (u.place n source limit)))

/-- An ANNOUNCE for a record that is not PENDING: a bar answers DENIED and reports DENIED_SEEN; a STATIC DORMANT record
becomes ACTIVE on the arrival segment, and a live one on its own segment is refreshed, both reporting RETURNED; a live one
on another segment moves there with MOVED, or where moves are refused is charged a conflict and answered BOUND_ELSEWHERE.
With no room for the answer there is no effect but OVERFLOW (R5, R6, R96, R98, R99, R100). -/
def Obligations.AnnounceFromKnownModule : Prop :=
  ∀ (s : State) (n : SegNo) (source : Address) (id : ModuleId) (cls pref : Byte) (i : RecNo) (a lease : Byte),
    s.segTakes n source (.announce id cls pref) → s.engine.mode = .running → s.lookup id = some i →
    let r := s.records[i]
    let u := s.takeFrame n
    let answers := fun (m : Message) (new : Record) =>
      (s.hasRoom n →
          ∃ t, exec (.announce n) s = .next t
            ∧ t = { u with
                engine := { u.engine with attnCount := t.engine.attnCount }
                records := t.records, groups := t.groups, segs := (u.place n source m).segs }
            ∧ RecordBecomes s t i new)
        ∧ (¬s.hasRoom n → exec (.announce n) s = .next (u.place n source m))
    let live := r.kind ≠ .denied ∧ (r.state = .active ∨ r.state = .stale)
    (r.kind = .denied → answers (.refuse id .denied 0) { r with attention := r.attention ||| 0x80 })
      ∧ (r.kind = .static → r.state = .dormant → r.address = some a → r.lease = some lease →
          answers (.confirm id a) { r with
            state := .active, segment := some n, ticks := lease, attention := r.attention ||| 0x02
            generation := nextGeneration r.generation })
      ∧ (live → r.segment = some n → r.address = some a → r.lease = some lease →
          answers (.confirm id a) { r with
            state := .active, ticks := lease, attention := r.attention ||| 0x02
            generation := if r.state = .active then r.generation else nextGeneration r.generation })
      ∧ (live → r.segment ≠ some n → r.address = some a → r.lease = some lease → s.policy[n].acceptMoves = true →
          answers (.confirm id a) { r with
            state := .active, segment := some n, ticks := lease, attention := r.attention ||| 0x04
            generation := nextGeneration r.generation })
      ∧ (live → r.segment ≠ some n → s.policy[n].acceptMoves = false →
          answers (.refuse id .boundElsewhere 0) { r with
            conflicts := if r.conflicts = 15 then 15 else r.conflicts + 1, attention := r.attention ||| 0x40
            generation := if r.conflicts = 15 then r.generation else nextGeneration r.generation })

/-- An ACCEPT that matches a slot's ID, nonce and offered address commits the claim: the record becomes DYNAMIC ACTIVE on
the arrival segment with the groups of its admission and LEARNED, its address is BOUND, the slot is free and CONFIRM
answers. One that matches no slot is confirmed by the record that holds the address, a STATIC DORMANT one becoming ACTIVE,
and is otherwise refused STALE_OFFER. HALTED and FLUSHING refuse it. With no room for the answer there is no effect but
OVERFLOW (R96, R104, R105, R106). -/
def Obligations.AcceptCommits : Prop :=
  ∀ (s : State) (n : SegNo) (source : Address) (id : ModuleId) (nonce : BitVec 16) (a : Address),
    s.segTakes n source (.accept id nonce a) →
    let u := s.takeFrame n
    let answered := fun m => exec (.accept n) s = .next (u.place n source m)
    let fits := fun c : Claim => c.id = id ∧ c.nonce = nonce ∧ c.address = a
    (s.engine.mode = .halted → answered (.refuse id .halted s.config.retryHint))
      ∧ (s.engine.mode = .flushing → answered (.refuse id .busy s.config.retryHint))
      ∧ (s.engine.mode = .running →
          (∀ (k : SlotNo) (c : Claim) (lease : Byte), s.slots[k] = some c → fits c →
              (∀ j : SlotNo, j < k → ∀ e, s.slots[j] = some e → ¬fits e) →
              s.records[c.record].state = .pending → s.records[c.record].lease = some lease →
              let r := s.records[c.record]
              let v := u.removeOffers nonce
              (v.hasRoom n →
                  ∃ t, exec (.accept n) s = .next t
                    ∧ t = { u with
                        engine := { u.engine with attnCount := t.engine.attnCount }
                        records := t.records, groups := t.groups
                        slots := s.slots.set k none, due := s.due.filter (· != k)
                        segs := (v.place n source (.confirm id a)).segs
                        pool := s.pool.take a (.bound c.record) }
                    ∧ RecordBecomes s t c.record { r with
                        kind := .dynamic, state := .active, segment := some n, groups := c.groups, ticks := lease
                        slot := none, attention := r.attention ||| 0x01, generation := nextGeneration r.generation })
                ∧ (¬v.hasRoom n → answered (.confirm id a)))
            ∧ ((∀ (k : SlotNo) (c : Claim), s.slots[k] = some c → ¬fits c) →
                (s.lookup id = none → answered (.refuse id .staleOffer 0))
                  ∧ ∀ i : RecNo, s.lookup id = some i →
                      let r := s.records[i]
                      let live := r.state = .active ∨ r.state = .stale
                      let barred := r.kind = .static ∧ r.state = .dormant
                      (live → r.address = some a → answered (.confirm id a))
                        ∧ (∀ lease, barred → r.address = some a → r.lease = some lease →
                            (s.hasRoom n →
                                ∃ t, exec (.accept n) s = .next t
                                  ∧ t = { u with
                                      engine := { u.engine with attnCount := t.engine.attnCount }
                                      records := t.records, groups := t.groups
                                      segs := (u.place n source (.confirm id a)).segs }
                                  ∧ RecordBecomes s t i { r with
                                      state := .active, segment := some n, ticks := lease
                                      attention := r.attention ||| 0x02, generation := nextGeneration r.generation })
                              ∧ (¬s.hasRoom n → answered (.confirm id a)))
                        ∧ (¬live → ¬barred → answered (.refuse id .staleOffer 0))
                        ∧ (r.address ≠ some a → answered (.refuse id .staleOffer 0))))

/-- A DECLINE that matches a slot's ID and nonce holds the declined address with no former ID and, twice in a claim, offers
the address that allocation yields then under a new nonce; at the limit, or with no address, it ends the claim with
NO_ADDRESS. With no room for the answer there is no effect but OVERFLOW. One that matches no slot, or comes in another mode
than RUNNING, is discarded (R42, R44, R70, R96, R107, R108). -/
def Obligations.DeclineOffersAgain : Prop :=
  ∀ (s : State) (n : SegNo) (source : Address) (id : ModuleId) (nonce : BitVec 16),
    s.segTakes n source (.decline id nonce) →
    let u := s.takeFrame n
    let fits := fun c : Claim => c.id = id ∧ c.nonce = nonce
    (s.engine.mode ≠ .running → exec (.decline n) s = .next u)
      ∧ ((∀ (k : SlotNo) (c : Claim), s.slots[k] = some c → ¬fits c) → exec (.decline n) s = .next u)
      ∧ ∀ (k : SlotNo) (c : Claim), s.engine.mode = .running → s.slots[k] = some c → fits c →
          (∀ j : SlotNo, j < k → ∀ e, s.slots[j] = some e → ¬fits e) → s.records[c.record].state = .pending →
          s.records[c.record].address = some c.address →
          let r := s.records[c.record]
          let v := u.removeOffers nonce
          let held := s.pool.toHold s.config.holdPeriod c.address none
          let next := if c.declines < 2 then held.allocateAgain c.low c.high c.address else none
          (∀ b, next = some b →
              let offer : Message := .offer id s.engine.nonce b
              (v.hasRoom n →
                  ∃ t, exec (.decline n) s = .next t
                    ∧ t = { u with
                        engine := { u.engine with
                          nonce := if s.engine.nonce = 0xFFFF then 1 else s.engine.nonce + 1
                          attnCount := t.engine.attnCount }
                        records := t.records, groups := t.groups
                        slots := s.slots.set k (some { c with
                          phase := .sending, address := b, nonce := s.engine.nonce, declines := c.declines + 1
                          segment := n, replyTo := source, window := s.config.offerWindow.toNat * 10 })
                        due := s.due.filter (· != k)
                        segs := (v.place n source offer).segs
                        pool := held.take b (.offered c.record) }
                    ∧ RecordBecomes s t c.record { r with
                        address := some b, segment := some n, generation := nextGeneration r.generation })
                ∧ (¬v.hasRoom n → exec (.decline n) s = .next (u.place n source offer)))
            ∧ (next = none →
                let ended : Message := .refuse id .noAddress 0
                (v.hasRoom n →
                    ∃ t, exec (.decline n) s = .next t
                      ∧ t = { u with
                          engine := { u.engine with attnCount := t.engine.attnCount }
                          records := t.records, groups := t.groups
                          slots := s.slots.set k none, due := s.due.filter (· != k)
                          segs := (v.place n source ended).segs, pool := held }
                      ∧ RecordBecomes s t c.record Record.empty)
                  ∧ (¬v.hasRoom n → exec (.decline n) s = .next (u.place n source ended)))

/-! ### Frames: bindings and questions -/

/-- A HEARTBEAT in RUNNING from an address bound to a live record on its segment refreshes the record of the same ID, a
STALE one becoming ACTIVE, and charges a conflict with a REVOKE when the ID is another; from any other address it draws a
REVOKE alone; outside RUNNING it is discarded (R125, R126, R127, R128). -/
def Obligations.HeartbeatRefreshesOrRevokes : Prop :=
  ∀ (s : State) (n : SegNo) (a : Address) (id : ModuleId), s.segTakes n a (.heartbeat id) → 0x01 ≤ a → a ≤ 0xEF →
    let u := s.takeFrame n
    let holds := fun i : RecNo => s.pool.map[a.toFin] = .bound i
      ∧ (s.records[i].state = .active ∨ s.records[i].state = .stale) ∧ s.records[i].segment = some n
    (s.engine.mode ≠ .running → exec (.heartbeat n) s = .next u)
      ∧ (s.engine.mode = .running →
          ((∀ i, ¬holds i) → exec (.heartbeat n) s = .next (u.place n a (.revoke id a)))
            ∧ (∀ (i : RecNo) (lease : Byte), holds i → s.records[i].id = some id → s.records[i].lease = some lease →
                ∃ t, exec (.heartbeat n) s = .next t
                  ∧ t = { u with
                      engine := { u.engine with attnCount := t.engine.attnCount }
                      records := t.records, groups := t.groups }
                  ∧ RecordBecomes s t i { s.records[i] with
                      state := .active, ticks := lease
                      generation := if s.records[i].state = .active then s.records[i].generation
                        else nextGeneration s.records[i].generation })
            ∧ ∀ i : RecNo, holds i → s.records[i].id ≠ some id →
                (s.hasRoom n →
                    ∃ t, exec (.heartbeat n) s = .next t
                      ∧ t = { u with
                          engine := { u.engine with attnCount := t.engine.attnCount }
                          records := t.records, groups := t.groups
                          segs := (u.place n a (.revoke id a)).segs }
                      ∧ RecordBecomes s t i { s.records[i] with
                          conflicts := if s.records[i].conflicts = 15 then 15 else s.records[i].conflicts + 1
                          attention := s.records[i].attention ||| 0x40
                          generation := if s.records[i].conflicts = 15 then s.records[i].generation
                            else nextGeneration s.records[i].generation })
                  ∧ (¬s.hasRoom n → exec (.heartbeat n) s = .next (u.place n a (.revoke id a))))

/-- A RELEASE in RUNNING of an address bound to a live record on its segment with its ID ends the binding with RELEASED: a
DYNAMIC record becomes a tombstone and its address is held with its ID as former ID, a STATIC one becomes DORMANT and keeps
its address. With another ID it is discarded, from any other address it draws a REVOKE, and outside RUNNING it is discarded
(R16, R45, R129, R130). -/
def Obligations.ReleaseEndsBinding : Prop :=
  ∀ (s : State) (n : SegNo) (a : Address) (id : ModuleId), s.segTakes n a (.release id) → 0x01 ≤ a → a ≤ 0xEF →
    let u := s.takeFrame n
    let holds := fun i : RecNo => s.pool.map[a.toFin] = .bound i
      ∧ (s.records[i].state = .active ∨ s.records[i].state = .stale) ∧ s.records[i].segment = some n
    (s.engine.mode ≠ .running → exec (.release n) s = .next u)
      ∧ (s.engine.mode = .running →
          ((∀ i, ¬holds i) → exec (.release n) s = .next (u.place n a (.revoke id a)))
            ∧ (∀ i : RecNo, holds i → s.records[i].id ≠ some id → exec (.release n) s = .next u)
            ∧ ∀ i : RecNo, holds i → s.records[i].id = some id → s.records[i].address = some a →
                ∃ t, exec (.release n) s = .next t
                  ∧ t = { u with
                      engine := { u.engine with attnCount := t.engine.attnCount }
                      records := t.records, groups := t.groups, pool := t.pool }
                  ∧ (s.records[i].kind = .dynamic →
                      t.pool = s.pool.toHold s.config.holdPeriod a (some id)
                        ∧ RecordBecomes s t i { s.records[i] with
                            state := .retired, ticks := 0, groups := 0, attention := s.records[i].attention ||| 0x20
                            generation := nextGeneration s.records[i].generation })
                  ∧ (s.records[i].kind = .static →
                      t.pool = s.pool
                        ∧ RecordBecomes s t i { s.records[i] with
                            state := .dormant, ticks := 0, attention := s.records[i].attention ||| 0x20
                            generation := nextGeneration s.records[i].generation }))

/-- A RESOLVE frame, in every mode, is answered with one REPLY when its source is bound to a live record on its segment with
the requester's ID, and with a REVOKE otherwise; no table changes. A question finds live records on segments in the
visibility mask of the arrival segment alone: by ID its address, by address its ID; by a group that is enabled and visible
there, the addresses above the start in ascending order, sixteen at most, TRUNCATED when there are more (R132 to R141). -/
def Obligations.ResolveAnswersVisibleRecords : Prop :=
  ∀ (s : State) (n : SegNo) (a : Address) (requester : ModuleId) (q : Question),
    s.segTakes n a (.resolve requester q) → 0x01 ≤ a → a ≤ 0xEF → TablesAgree s →
    let c : Instr := match q with
      | .byId _ => .resolveId n | .byAddress _ => .resolveAddress n | .byGroup .. => .resolveGroup n
    let u := s.takeFrame n
    let live := fun i : RecNo => s.records[i].state = .active ∨ s.records[i].state = .stale
    let seen := fun i : RecNo => live i ∧ ∃ m, s.records[i].segment = some m ∧ s.policy[n].visible.getLsbD m.val = true
    let bound := ∃ i : RecNo, s.pool.map[a.toFin] = .bound i ∧ live i ∧ s.records[i].segment = some n
      ∧ s.records[i].id = some requester
    (¬bound → exec c s = .next (u.place n a (.revoke requester a)))
      ∧ (bound → ∃ result, exec c s = .next (u.place n a (.reply requester q result))
          ∧ (∀ target, q = .byId target →
              (∀ (i : RecNo) (b : Address), s.lookup target = some i → seen i → s.records[i].address = some b →
                  result = .address b)
                ∧ ((∀ i : RecNo, s.lookup target = some i → ¬seen i) → result = .unknown))
          ∧ (∀ target, q = .byAddress target →
              (∀ (i : RecNo) (id : ModuleId), s.pool.map[target.toFin] = .bound i → seen i → s.records[i].id = some id →
                  result = .id id)
                ∧ ((∀ i : RecNo, s.pool.map[target.toFin] = .bound i → ¬seen i) → result = .unknown))
          ∧ (∀ g start, q = .byGroup g start →
              (16 ≤ g.toNat → result = .unknown)
                ∧ ∀ k : GroupNo, g.toNat = k.val →
                    (s.groups[k].enabled = false ∨ s.groups[k].mask.getLsbD n.val = false → result = .unknown)
                      ∧ (s.groups[k].enabled = true → s.groups[k].mask.getLsbD n.val = true →
                          ∃ all : List Address, all.Pairwise (· < ·)
                            ∧ (∀ b, b ∈ all ↔ ∃ i : RecNo, seen i ∧ s.records[i].groups.getLsbD k.val = true
                                ∧ s.records[i].address = some b ∧ start < b)
                            ∧ result = .group (all.take 16) (decide (16 < all.length)))))

/-! ### Notices, expiries and sweeps -/

/-- A measured active period beyond its limit takes an enabled segment to FAULT: queues and notices discarded, the line
released, everything off, SEG_FAULT(n) set and a fault notice held. The grant of that notice removes it and withdraws the
claims of the segment (R57, R163, R164, R165). -/
def Obligations.StuckLineFaultsSegment : Prop :=
  (∀ (s : State) (n : SegNo), (s.segs[n].state = .listening ∨ s.segs[n].state = .hushed) →
      s.segs[n].monitor = .measuring →
      exec (.lineStuck n) s = .next { s with
        segs := s.segs.set n ⟨.fault, .off, .idle, .off, [], [], [], true, s.segs[n].rxError, s.segs[n].overflow,
          s.segs[n].bitRate, []⟩
        port := { s.port with flags := s.port.flags ||| (0x10 <<< n.val) } })
    ∧ ∀ (s : State) (n : SegNo), s.granted = some (.faultNotice n) →
      exec (.faultNotice n) s = .next (State.withdrawSegment { s with
        engine := { s.engine with pointer := .seg n }
        segs := s.segs.set n { s.segs[n] with faultNotice := false } } n)

/-- A SENT notice makes the slot of its nonce OFFERED with its window at the full length and no expiry due; a DROPPED one
withdraws the claim when its slot is SENDING on that segment and no other copy of the OFFER is in the segment's queue or
notices; either leaves its list, and is otherwise discarded. Of two busy slots with its nonce the lower is meant, by the
model's choice (log entry 22) (R91, R93, R94, R161). -/
def Obligations.TransmitNoticesMoveClaims : Prop :=
  ∀ (s : State) (n : SegNo) (sent : Bool) (nonce : BitVec 16), s.granted = some (.notice n ⟨sent, nonce⟩) →
    let u := { s with
      engine := { s.engine with pointer := .seg n }
      segs := s.segs.set n { s.segs[n] with notices := s.segs[n].notices.tail } }
    let copy := (∃ e ∈ s.segs[n].tx, e.message.offerNonce = some nonce)
      ∨ ∃ x ∈ s.segs[n].notices.tail, x.nonce = nonce
    let c : Instr := if sent then .transmitNotice n else .dropNotice n
    ((∀ (k : SlotNo) (e : Claim), s.slots[k] = some e → e.nonce ≠ nonce) → exec c s = .next u)
      ∧ ∀ (k : SlotNo) (e : Claim), s.slots[k] = some e → e.nonce = nonce →
          (∀ j : SlotNo, j < k → ∀ x, s.slots[j] = some x → x.nonce ≠ nonce) →
          (sent = true → exec c s = .next { u with
              slots := s.slots.set k (some { e with phase := .offered, window := s.config.offerWindow.toNat * 10 })
              due := s.due.filter (· != k) })
            ∧ (sent = false → e.phase = .sending → e.segment = n → ¬copy → exec c s = .next (u.withdraw k))
            ∧ (sent = false → (e.phase = .offered ∨ e.segment ≠ n ∨ copy) → exec c s = .next u)

/-- The window of an OFFERED slot that runs out makes the slot due: behind those of earlier milliseconds, and in ascending
order among those of the millisecond completed last, to which it belongs (when it runs out is not counted in this command,
log entry 11); the oldest due expiry, when granted, withdraws its claim (R58, R91, R109). -/
def Obligations.ClaimsExpire : Prop :=
  (∀ (s : State) (k : SlotNo) (c : Claim), s.slots[k] = some c → c.phase = .offered → c.window ≠ 0 → k ∉ s.due →
      exec (.offerWindowRunOut k) s = .next { s with
        slots := s.slots.set k (some { c with window := 0 })
        due := s.due.filter (fun j => !s.ranOut.contains j)
          ++ (List.finRange 8).filter fun j => j == k || (s.due.contains j && s.ranOut.contains j)
        ranOut := (List.finRange 8).filter fun j => j == k || s.ranOut.contains j })
    ∧ ∀ (s : State) (k : SlotNo), s.granted = some (.expiry k) →
      s.due.head? = some k
        ∧ exec .claimExpiry s = .next (State.withdraw { s with engine := { s.engine with pointer := .timer } } k)

/-- The first step of a sweep takes one from every hold entry above 0 and moves the entries at 0 from the head of the hold
list, in order, to the tail of the free list; the visit of record 0 follows. HOLD_ENTRY_EXPIRY is the same step where the
head entry reaches 0 (R37, R117; log entry 14). -/
def Obligations.HoldListCountsDown : Prop :=
  ∀ s : State, PoolAgrees s → s.granted = some (.sweepStep .holdList) →
    let counted := s.pool.hold.map fun e => { e with ticks := if e.ticks = 0 then 0 else e.ticks - 1 }
    let out := (counted.takeWhile (·.ticks == 0)).map (·.address)
    ∃ t, exec .holdListStep s = .next t
      ∧ (∀ e rest, s.pool.hold = e :: rest → e.ticks = 0 ∨ e.ticks = 1 → exec .holdEntryExpiry s = .next t)
      ∧ t = { s with engine := { s.engine with pointer := .timer, sweepNext := .visit 0 }, pool := t.pool }
      ∧ t.pool.hold = counted.dropWhile (·.ticks == 0)
      ∧ t.pool.free = s.pool.free ++ out
      ∧ ∀ a : Address, t.pool.map[a.toFin] = if a ∈ out then .free else s.pool.map[a.toFin]

/-- A sweep visit takes one from the ticks left of a live record. An ACTIVE record that reaches 0 becomes STALE with
STALE_WINDOW, reports STALE and is probed; a STALE one is probed at every visit until it reaches 0 and ends with EXPIRED, by
its kind; other records are passed. The next visit follows; after record 255 the sweep ends, and an owed tick starts the next
unless a FLUSH_DYNAMIC waits at the head. LEASE_RUN_OUT and STALE_WINDOW_RUN_OUT are the visits in which the ticks left reach
0 (R16, R45, R62, R115, R118 to R122; log entry 14). -/
def Obligations.SweepVisitsAgeRecords : Prop :=
  ∀ (s : State) (i : RecNo), s.granted = some (.sweepStep (.visit i)) →
    let r := s.records[i]
    ∃ u t, exec .sweepVisit s = .next t
      ∧ (r.state = .active → r.ticks = 1 → exec .leaseRunOut s = .next t)
      ∧ (r.state = .stale → r.ticks = 1 → exec .staleWindowRunOut s = .next t)
      ∧ u = { s with
          engine := { s.engine with pointer := .timer, attnCount := u.engine.attnCount }
          records := u.records, groups := u.groups, segs := u.segs, pool := u.pool }
      ∧ (r.state = .active → 1 < r.ticks.toNat →
          RecordBecomes s u i { r with ticks := r.ticks - 1 } ∧ u.segs = s.segs ∧ u.pool = s.pool)
      ∧ (∀ id a n, r.state = .active → r.ticks = 1 → r.id = some id → r.address = some a → r.segment = some n →
          RecordBecomes s u i { r with
              state := .stale, ticks := s.config.staleWindow, attention := r.attention ||| 0x08
              generation := nextGeneration r.generation }
            ∧ u.segs = (s.place n a (.probe id a)).segs ∧ u.pool = s.pool)
      ∧ (∀ id a n, r.state = .stale → 1 < r.ticks.toNat → r.id = some id → r.address = some a → r.segment = some n →
          RecordBecomes s u i { r with ticks := r.ticks - 1 }
            ∧ u.segs = (s.place n a (.probe id a)).segs ∧ u.pool = s.pool)
      ∧ (∀ a, r.state = .stale → r.ticks = 1 → r.kind = .dynamic → r.address = some a →
          RecordBecomes s u i { r with
              state := .retired, ticks := 0, groups := 0, attention := r.attention ||| 0x10
              generation := nextGeneration r.generation }
            ∧ u.segs = s.segs ∧ u.pool = s.pool.toHold s.config.holdPeriod a r.id)
      ∧ (r.state = .stale → r.ticks = 1 → r.kind = .static →
          RecordBecomes s u i { r with
              state := .dormant, ticks := 0, attention := r.attention ||| 0x10
              generation := nextGeneration r.generation }
            ∧ u.segs = s.segs ∧ u.pool = s.pool)
      ∧ (r.state ≠ .active → r.state ≠ .stale → u = { s with engine := { s.engine with pointer := .timer } })
      ∧ (i ≠ 255 → t = { u with engine := { u.engine with sweepNext := .visit (i + 1) } })
      ∧ (i = 255 →
          let flushWaits := ∃ q ∈ s.port.requests.head?, q.taken = false ∧ q.command = 0x31
          (s.engine.owed = 0 ∨ flushWaits →
              t = { u with engine := { u.engine with sweeping := false, sweepNext := .holdList } })
            ∧ (s.engine.owed ≠ 0 → ¬flushWaits →
                t = { u with engine := { u.engine with
                  sweeping := true, sweepNext := .holdList, owed := s.engine.owed - 1 } }))

/-! ### The segments -/

/-- The receiver of an enabled segment: in RX_READY an active line begins a frame; in RX_GAP ten idle bit times lead to
RX_READY, and a line active before that is waited out and measured, neither while sending; a 41st byte discards the frame
with RX_ERROR and returns to RX_GAP. A disabled segment does none of it. When these
events come is not counted by the model (log entry 11) (R152, R153, R163). -/
def Obligations.ReceiverFollowsLine : Prop :=
  ∀ (s : State) (n : SegNo),
    let c := s.segs[n]
    let up := c.state = .listening ∨ c.state = .hushed
    let becomes := fun (x : Instr) (d : SegCtl) => exec x s = .next { s with segs := s.segs.set n d }
    (up → c.receiver = .ready →
        becomes (.frameStart n) { c with receiver := .receiving, monitor := .measuring })
      ∧ (up → c.receiver = .gap → c.transmitter ≠ .sending →
          becomes (.startGap n) { c with receiver := .ready, monitor := .quiet }
            ∧ becomes (.dataLineActiveInGap n) { c with monitor := .measuring })
      ∧ (up → c.receiver = .receiving → becomes (.frameOverLength n) { c with receiver := .gap, rxError := true })
      ∧ ∀ x ∈ [Instr.frameStart n, .startGap n, .dataLineActiveInGap n, .frameOverLength n],
          (¬up ∨ (c.receiver = .gap ∧ c.transmitter = .sending)) → exec x s = .next s

/-- A frame completed on the line is judged: under four whole bytes it is passed over; over forty bytes, with a coding
error, a CRC-16 that does not check or a length that does not agree, it sets RX_ERROR; one whose contents are not a message
of a module to the G240 is passed over; one that is joins the receive queue, the second driving HUSH, and finds it full with
OVERFLOW. More than 320 data bits count as over forty bytes (log entry 16). How many bytes a line with a coding error holds,
and so whether it is passed over or sets RX_ERROR, rests on the model's reading of the bits after the error (log entry 8). The
CRC-16 has the polynomial x^16 + x^15 + x^2 + 1 from FFFFh, bit by bit. The frame of a module's message is destination,
source, kind, body length, body and CRC-16, each of the eight kinds has its code and body, and IDs and 16-bit values go most
significant byte first (R152 to R155, R186, R187). -/
def Obligations.FilterJudgesFrames : Prop :=
  (∀ bytes : List Byte, crc16 bytes =
      (frameBits bytes).foldl (fun (x : BitVec 16) b => if x.msb != b then (x <<< 1) ^^^ 0x8005 else x <<< 1) 0xFFFF)
    ∧ (∀ w : BitVec 16, bytes16 w = [BitVec.ofNat 8 (w.toNat / 256), BitVec.ofNat 8 w.toNat])
    ∧ (∀ id : ModuleId, idBytes id = (List.range 8).map fun k => BitVec.ofNat 8 (id.toNat / 256 ^ (7 - k)))
    ∧ (∀ m : FieldMessage, (m.kindCode, m.body) = match m with
      | .announce id cls preferred => (0x01, idBytes id ++ [cls, preferred])
      | .accept id nonce a => (0x02, idBytes id ++ bytes16 nonce ++ [a])
      | .decline id nonce => (0x03, idBytes id ++ bytes16 nonce)
      | .heartbeat id => (0x04, idBytes id)
      | .release id => (0x05, idBytes id)
      | .resolve requester (.byId target) => (0x06, idBytes requester ++ idBytes target)
      | .resolve requester (.byAddress target) => (0x07, idBytes requester ++ [target])
      | .resolve requester (.byGroup g start) => (0x08, idBytes requester ++ [g, start]))
    ∧ (∀ f : RxFrame,
        let covered := [f.dest, f.source, f.message.kindCode, BitVec.ofNat 8 f.message.body.length] ++ f.message.body
        f.frame = covered ++ bytes16 (crc16 covered))
    ∧ ∀ (s : State) (n : SegNo) (line : List Level),
    (s.segs[n].state = .listening ∨ s.segs[n].state = .hushed) → s.segs[n].receiver = .receiving →
    let bits := (lineDecode line).1
    let bytes := wholeBytes bits
    let body := bytes.dropLast.dropLast
    let intact := (lineDecode line).2 = false ∧ bytes = body ++ bytes16 (crc16 body)
      ∧ body.length = (bytes.getD 3 0).toNat + 4
    let c := { s.segs[n] with receiver := .ready, monitor := .quiet }
    let becomes := fun d => exec (.frameComplete n line) s = .next { s with segs := s.segs.set n d }
    (320 < bits.length → becomes { c with receiver := .gap, rxError := true })
      ∧ (bits.length ≤ 320 → bytes.length < 4 → becomes c)
      ∧ (bits.length ≤ 320 → 4 ≤ bytes.length → ¬intact → becomes { c with rxError := true })
      ∧ (bits.length ≤ 320 → 4 ≤ bytes.length → intact → (∀ f : RxFrame, f.lawful → bytes ≠ f.frame) → becomes c)
      ∧ ∀ f : RxFrame, (lineDecode line).2 = false → bits.length ≤ 320 → f.lawful → bytes = f.frame →
          (c.rx.length = 0 → becomes { c with rx := [f] })
            ∧ (c.rx.length = 1 → becomes { c with rx := c.rx ++ [f], state := .hushed })
            ∧ (2 ≤ c.rx.length → becomes { c with overflow := true })

/-- The line code loses nothing: the bit times driven for any bytes are read back as exactly their bits, with no coding
error. With the start bit they never hold three idle bit times in a row, nor seven active ones: an end gap and a stuck line
never occur within a frame. Bytes go most significant bit first, a 1 as an idle bit time; after two idle bit times in a row
the sender inserts an active one and after six active ones an idle one, each opening the run after it, also where the run
ends with the last data bit (log entry 9). The receiver drops these bits; two idle bit times followed by a third end the
frame; an active bit after six active ones is a coding error and opens a run of one (log entry 8) (R146, R186). -/
def Obligations.LineCodeRoundTrip : Prop :=
  (∀ bytes : List Byte, frameBits bytes = bytes.flatMap fun b => (List.range 8).map b.getMsbD)
    ∧ (∀ bytes : List Byte, lineCode bytes = stuff .active 1 (frameBits bytes))
    ∧ (∀ (run : Level) (n : Nat) (bit : Bool) (rest : List Bool),
        let l := if bit then Level.idle else Level.active
        let k := if l = run then n + 1 else 1
        stuff run n [] = [] ∧ stuff run n (bit :: rest) =
          if l = .idle ∧ k = 2 then .idle :: .active :: stuff .active 1 rest
          else if l = .active ∧ k = 6 then .active :: .idle :: stuff .idle 1 rest
          else l :: stuff l k rest)
    ∧ (∀ line : List Level, lineDecode line = unstuff .active 1 line)
    ∧ (∀ (run : Level) (n : Nat) (l : Level) (rest : List Level),
        unstuff run n [] = ([], false)
          ∧ (run = .idle → n = 2 → unstuff run n (.idle :: rest) = ([], false)
              ∧ unstuff run n (.active :: rest) = unstuff .active 1 rest)
          ∧ (run = .active → n = 6 → unstuff run n (.idle :: rest) = unstuff .idle 1 rest
              ∧ unstuff run n (.active :: rest) = ((unstuff .active 1 rest).1, true))
          ∧ (¬(run = .idle ∧ n = 2) → ¬(run = .active ∧ n = 6) →
              let r := unstuff l (if l = run then n + 1 else 1) rest
              unstuff run n (l :: rest) = ((l == .idle) :: r.1, r.2)))
    ∧ (∀ bytes : List Byte, lineDecode (lineCode bytes) = (frameBits bytes, false) ∧ wholeBytes (frameBits bytes) = bytes)
    ∧ ∀ (bytes : List Byte) (before after : List Level) (l : Level) (k : Nat),
      Level.active :: lineCode bytes = before ++ List.replicate k l ++ after →
      (l = .idle → k ≤ 2) ∧ (l = .active → k ≤ 6)

/-- A module's message reaches the Table Engine whole: the line-coded frame of any lawful message, completed on a receiving
segment with room, stands in the receive queue as that message with its addresses (R152 to R155, R186, R187). -/
def Obligations.ModuleFrameArrives : Prop :=
  ∀ (s : State) (n : SegNo) (f : RxFrame), f.lawful →
    (s.segs[n].state = .listening ∨ s.segs[n].state = .hushed) → s.segs[n].receiver = .receiving →
    s.segs[n].rx.length < 2 →
    ∃ t, exec (.frameComplete n (lineCode f.frame)) s = .next t
      ∧ t = { s with segs := s.segs.set n t.segs[n] }
      ∧ t.segs[n] = { s.segs[n] with
          receiver := .ready, monitor := .quiet, rx := s.segs[n].rx ++ [f]
          state := if s.segs[n].rx = [] then s.segs[n].state else .hushed }

/-- The transmitter of an enabled segment: an idle one with a message and a receiver that is not receiving starts an attempt,
counting it and driving the start bit and the coded frame; a read-back failure backs off for 32 bit times per attempt made
and 8 per segment number, or after the fourth drops the message; a back-off runs out to idle; the last bit driven sends the
message. An OFFER sent or dropped leaves its notice. The frame is destination, source F0h, kind, body length, body and
CRC-16, and each kind of message has its code and body, byte by byte. When these events come is not counted by the model
(log entry 11) (R158 to R161, R163, R186, R187). -/
def Obligations.TransmitterSendsHead : Prop :=
  (∀ m : Message, (m.kindCode, m.body) = match m with
    | .offer id nonce a => (0x11, idBytes id ++ bytes16 nonce ++ [a])
    | .confirm id a => (0x12, idBytes id ++ [a])
    | .refuse id reason hint => (0x13, idBytes id ++ [match reason with
        | .halted => 0x01 | .busy => 0x02 | .denied => 0x03 | .notAdmitted => 0x04 | .boundElsewhere => 0x05
        | .claimsFull => 0x06 | .tableFull => 0x07 | .noAddress => 0x08 | .offerLimit => 0x09 | .staleOffer => 0x0A, hint])
    | .revoke id a => (0x14, idBytes id ++ [a])
    | .probe id a => (0x15, idBytes id ++ [a])
    | .reply requester question result => (0x16, idBytes requester
        ++ (match question with
          | .byId target => 0x06 :: idBytes target
          | .byAddress target => [0x07, target]
          | .byGroup g start => [0x08, g, start])
        ++ match result with
          | .unknown => [0x00]
          | .address a => [0x01, a]
          | .id i => 0x01 :: idBytes i
          | .group addresses truncated =>
            [if truncated then 0x03 else 0x01, BitVec.ofNat 8 addresses.length] ++ addresses)
    | .reannounce => (0x17, []))
    ∧ (∀ m : Message, m.offerNonce = match m with | .offer _ nonce _ => some nonce | _ => none)
    ∧ ∀ (s : State) (n : SegNo),
    let c := s.segs[n]
    let up := c.state = .listening ∨ c.state = .hushed
    let becomes := fun (x : Instr) (d : SegCtl) => exec x s = .next { s with segs := s.segs.set n d }
    (∀ k, c.transmitter = .backoff k → becomes (.backoffExpiry n) { c with transmitter := .idle })
      ∧ ∀ e rest, up → c.tx = e :: rest →
          let covered := [e.dest, 0xF0, e.message.kindCode, BitVec.ofNat 8 e.message.body.length] ++ e.message.body
          let notice := fun sent : Bool => match e.message with
            | .offer _ nonce _ => [Notice.mk sent nonce]
            | _ => []
          (c.transmitter = .idle → c.receiver ≠ .receiving → becomes (.attemptStart n) { c with
              tx := { e with attempts := e.attempts + 1 } :: rest, transmitter := .sending, receiver := .gap
              monitor := .quiet
              lineOut := .active :: lineCode (covered ++ bytes16 (crc16 covered)) })
            ∧ (c.transmitter = .sending → becomes (.transmitComplete n) { c with
                tx := rest, notices := c.notices ++ notice true, transmitter := .idle, lineOut := [] })
            ∧ ∀ active : Bool, c.transmitter = .sending →
                (e.attempts < 4 → becomes (.collision n active) { c with
                    transmitter := .backoff (e.attempts * 32 + 8 * n.val), lineOut := []
                    monitor := if active then .measuring else .quiet })
                  ∧ (4 ≤ e.attempts → becomes (.collision n active) { c with
                      tx := rest, notices := c.notices ++ notice false, transmitter := .idle, lineOut := []
                      monitor := if active then .measuring else .quiet })

/-! ### Invariants -/

/-- The agreements of the credits, the nonce, the modes, the counts, the segments, the tables, the buckets, the IDs, the
settings, the leases and the expiries hold when a reset has completed. -/
def Obligations.AllAgreementsHoldAtReset : Prop :=
  CreditsHold State.reset ∧ NonceLive State.reset ∧ LongOperationsAgree State.reset ∧ AttentionExact State.reset
    ∧ MembersExact State.reset ∧ SegmentsAgree State.reset ∧ TablesAgree State.reset ∧ BucketsHold State.reset
    ∧ IdsDistinct State.reset ∧ SettingsInBounds State.reset ∧ LeasesRun State.reset ∧ ExpiriesAgree State.reset

/-- Every step keeps: the free credits equal to 4 less the requests and responses held (R171); the nonce counter off 0000h
(R70); and the agreement of the modes with the sweep, the flush and the owed ticks (R59, R115), and with the request at the
head, which is a FLUSH_DYNAMIC marked taken in FLUSHING, no other request being marked taken (R56, R64, R65). -/
def Obligations.StepKeepsCreditsAndModes : Prop :=
  ∀ s t : State, step s = .next t →
    (CreditsHold s → CreditsHold t) ∧ (NonceLive s → NonceLive t) ∧ (LongOperationsAgree s → LongOperationsAgree t)

/-- Every step keeps the attention count equal to the number of records with a notice (R15), and the member count of each
group equal to the number of counted records in it, which are the STATIC ones and the DYNAMIC ones in ACTIVE or STALE (R17,
R83). -/
def Obligations.StepKeepsCountsExact : Prop :=
  (∀ r : Record, (r.counted = true ↔
        r.kind = .static ∨ (r.kind = .dynamic ∧ (r.state = .active ∨ r.state = .stale)))
      ∧ (r.attentive = if r.attention = 0 then 0 else 1)
      ∧ ∀ g : GroupNo, r.countsFor g = if r.counted = true ∧ r.groups.getLsbD g.val = true then 1 else 0)
    ∧ ∀ s t : State, step s = .next t → (AttentionExact s → AttentionExact t) ∧ (MembersExact s → MembersExact t)

/-- Every step keeps the parts of each Segment Controller in agreement: a segment that is down is off and empty, HUSHED means
two frames held, the transmit queue holds at most six messages of which the head alone is started, and OFFERs queued and
notices held number at most six together (R147, R152, R155, R157 to R161, R164). -/
def Obligations.StepKeepsSegmentsAgreeing : Prop := ∀ s t : State, step s = .next t → SegmentsAgree s → SegmentsAgree t

/-- Every step keeps the pool, the claims and the records in agreement: an address is in one place, named alike by the lists,
the map and the record that holds it; busy slots and PENDING records correspond one to one; every record is in an allowed
pair with the fields of it (R3, R4, R30, R31, R32, R36, R90). -/
def Obligations.StepKeepsTablesAgreeing : Prop := ∀ s t : State, step s = .next t → TablesAgree s → TablesAgree t

/-- Over tables that agree, every step keeps each record in the bucket of its ID (R1) and the IDs of findable records
distinct (R9). -/
def Obligations.StepKeepsIdsDistinct : Prop :=
  ∀ s t : State, step s = .next t → TablesAgree s → BucketsHold s → IdsDistinct s → BucketsHold t ∧ IdsDistinct t

/-- Every step keeps the configuration and the rules in their ranges (R66, R73); with these, over tables that agree, every
lease and countdown of a live record stays above 0 (R2, R118); and a slot stays due exactly when its claim is OFFERED with no
time left, once, those that ran out in the millisecond completed last standing behind the others in ascending order (R58,
R91). -/
def Obligations.StepKeepsSettingsAndLeases : Prop :=
  ∀ s t : State, step s = .next t → SettingsInBounds s →
    SettingsInBounds t ∧ (TablesAgree s → LeasesRun s → LeasesRun t) ∧ (ExpiriesAgree s → ExpiriesAgree t)

/-! ### The arbiter -/

/-- The arbiter grants the work of the first requester with work in the ring HOST, SEG0 to SEG3, TIMER, searched from the one
after the requester granted last. HOST presents its head request unless that has been taken, or is a FLUSH_DYNAMIC in RUNNING
while a sweep is in flight; SEGn its fault notice, else its oldest transmit notice, else its oldest frame; TIMER the oldest
due expiry, else the step of a sweep in flight, else that of a flush in flight. Where nothing is granted, no command that
needs a grant changes anything, the pointer included (R55 to R58; log entry 1). -/
def Obligations.ArbiterGrantsInRing : Prop :=
  ∀ s : State,
    let ring : List Requester := [.host, .seg 0, .seg 1, .seg 2, .seg 3, .timer]
    let place := ring.idxOf s.engine.pointer + 1
    let work : Requester → Option Work := fun
      | .host => s.port.requests.head?.bind fun r =>
          if r.taken = true ∨ (r.command = 0x31 ∧ s.engine.mode = .running ∧ s.engine.sweeping = true) then none
          else some (.request r)
      | .seg n =>
          if s.segs[n].faultNotice = true then some (.faultNotice n)
          else (s.segs[n].notices.head?.map (.notice n)).or (s.segs[n].rx.head?.map (.frame n))
      | .timer =>
          (s.due.head?.map .expiry).or
            (if s.engine.sweeping = true then some (.sweepStep s.engine.sweepNext)
              else if s.engine.flushing = true then some (.flushStep s.engine.flushNext) else none)
    s.granted = (ring.drop place ++ ring.take place).findSome? work
      ∧ (s.granted = none → ∀ n : SegNo, ∀ c ∈
          ([.badCommand, .readRecord, .findId, .findAddress, .bindStatic, .addDeny, .editRecord, .retireRecord,
            .collectAttention, .reserveAddress, .freeReservation, .readAddress, .readList, .setModeRun, .setModeHalt,
            .flushDynamic, .configure, .readConfig, .writeRule, .readRule, .writeGroup, .readGroup, .readClaim,
            .segmentControl, .readSegment, .announce n, .accept n, .decline n, .heartbeat n, .release n, .resolveId n,
            .resolveAddress n, .resolveGroup n, .faultNotice n, .transmitNotice n, .dropNotice n, .claimExpiry,
            .holdListStep, .holdEntryExpiry, .sweepVisit, .leaseRunOut, .staleWindowRunOut, .flushStep] : List Instr),
          exec c s = .next s)

end
end

