-- ==== Sys2Proof/Laws/State.lean ====
section
/-! SUPPORT. One lemma per field per update of State, each true by rfl, so that no proof unfolds a record update. -/

namespace Sys2Proof.Machine

@[simp] theorem State.withEngine_phase (s : State) (e : Engine) : (s.withEngine e).phase = s.phase := rfl
@[simp] theorem State.withEngine_engine (s : State) (e : Engine) : (s.withEngine e).engine = e := rfl
@[simp] theorem State.withEngine_config (s : State) (e : Engine) : (s.withEngine e).config = s.config := rfl
@[simp] theorem State.withEngine_policy (s : State) (e : Engine) : (s.withEngine e).policy = s.policy := rfl
@[simp] theorem State.withEngine_records (s : State) (e : Engine) : (s.withEngine e).records = s.records := rfl
@[simp] theorem State.withEngine_pool (s : State) (e : Engine) : (s.withEngine e).pool = s.pool := rfl
@[simp] theorem State.withEngine_rules (s : State) (e : Engine) : (s.withEngine e).rules = s.rules := rfl
@[simp] theorem State.withEngine_groups (s : State) (e : Engine) : (s.withEngine e).groups = s.groups := rfl
@[simp] theorem State.withEngine_slots (s : State) (e : Engine) : (s.withEngine e).slots = s.slots := rfl
@[simp] theorem State.withEngine_due (s : State) (e : Engine) : (s.withEngine e).due = s.due := rfl
@[simp] theorem State.withEngine_ranOut (s : State) (e : Engine) : (s.withEngine e).ranOut = s.ranOut := rfl
@[simp] theorem State.withEngine_aging (s : State) (e : Engine) : (s.withEngine e).aging = s.aging := rfl
@[simp] theorem State.withEngine_segs (s : State) (e : Engine) : (s.withEngine e).segs = s.segs := rfl
@[simp] theorem State.withEngine_port (s : State) (e : Engine) : (s.withEngine e).port = s.port := rfl
@[simp] theorem State.withEngine_sdo (s : State) (e : Engine) : (s.withEngine e).sdo = s.sdo := rfl
@[simp] theorem State.withEngine_pending (s : State) (e : Engine) : (s.withEngine e).pending = s.pending := rfl

@[simp] theorem State.withPool_phase (s : State) (p : Pool) : (s.withPool p).phase = s.phase := rfl
@[simp] theorem State.withPool_engine (s : State) (p : Pool) : (s.withPool p).engine = s.engine := rfl
@[simp] theorem State.withPool_config (s : State) (p : Pool) : (s.withPool p).config = s.config := rfl
@[simp] theorem State.withPool_policy (s : State) (p : Pool) : (s.withPool p).policy = s.policy := rfl
@[simp] theorem State.withPool_records (s : State) (p : Pool) : (s.withPool p).records = s.records := rfl
@[simp] theorem State.withPool_pool (s : State) (p : Pool) : (s.withPool p).pool = p := rfl
@[simp] theorem State.withPool_rules (s : State) (p : Pool) : (s.withPool p).rules = s.rules := rfl
@[simp] theorem State.withPool_groups (s : State) (p : Pool) : (s.withPool p).groups = s.groups := rfl
@[simp] theorem State.withPool_slots (s : State) (p : Pool) : (s.withPool p).slots = s.slots := rfl
@[simp] theorem State.withPool_due (s : State) (p : Pool) : (s.withPool p).due = s.due := rfl
@[simp] theorem State.withPool_ranOut (s : State) (p : Pool) : (s.withPool p).ranOut = s.ranOut := rfl
@[simp] theorem State.withPool_aging (s : State) (p : Pool) : (s.withPool p).aging = s.aging := rfl
@[simp] theorem State.withPool_segs (s : State) (p : Pool) : (s.withPool p).segs = s.segs := rfl
@[simp] theorem State.withPool_port (s : State) (p : Pool) : (s.withPool p).port = s.port := rfl
@[simp] theorem State.withPool_sdo (s : State) (p : Pool) : (s.withPool p).sdo = s.sdo := rfl
@[simp] theorem State.withPool_pending (s : State) (p : Pool) : (s.withPool p).pending = s.pending := rfl

@[simp] theorem State.withPort_phase (s : State) (p : Port) : (s.withPort p).phase = s.phase := rfl
@[simp] theorem State.withPort_engine (s : State) (p : Port) : (s.withPort p).engine = s.engine := rfl
@[simp] theorem State.withPort_config (s : State) (p : Port) : (s.withPort p).config = s.config := rfl
@[simp] theorem State.withPort_policy (s : State) (p : Port) : (s.withPort p).policy = s.policy := rfl
@[simp] theorem State.withPort_records (s : State) (p : Port) : (s.withPort p).records = s.records := rfl
@[simp] theorem State.withPort_pool (s : State) (p : Port) : (s.withPort p).pool = s.pool := rfl
@[simp] theorem State.withPort_rules (s : State) (p : Port) : (s.withPort p).rules = s.rules := rfl
@[simp] theorem State.withPort_groups (s : State) (p : Port) : (s.withPort p).groups = s.groups := rfl
@[simp] theorem State.withPort_slots (s : State) (p : Port) : (s.withPort p).slots = s.slots := rfl
@[simp] theorem State.withPort_due (s : State) (p : Port) : (s.withPort p).due = s.due := rfl
@[simp] theorem State.withPort_ranOut (s : State) (p : Port) : (s.withPort p).ranOut = s.ranOut := rfl
@[simp] theorem State.withPort_aging (s : State) (p : Port) : (s.withPort p).aging = s.aging := rfl
@[simp] theorem State.withPort_segs (s : State) (p : Port) : (s.withPort p).segs = s.segs := rfl
@[simp] theorem State.withPort_port (s : State) (p : Port) : (s.withPort p).port = p := rfl
@[simp] theorem State.withPort_sdo (s : State) (p : Port) : (s.withPort p).sdo = s.sdo := rfl
@[simp] theorem State.withPort_pending (s : State) (p : Port) : (s.withPort p).pending = s.pending := rfl

@[simp] theorem State.withSeg_phase (s : State) (n : SegNo) (c : SegCtl) : (s.withSeg n c).phase = s.phase := rfl
@[simp] theorem State.withSeg_engine (s : State) (n : SegNo) (c : SegCtl) : (s.withSeg n c).engine = s.engine := rfl
@[simp] theorem State.withSeg_config (s : State) (n : SegNo) (c : SegCtl) : (s.withSeg n c).config = s.config := rfl
@[simp] theorem State.withSeg_policy (s : State) (n : SegNo) (c : SegCtl) : (s.withSeg n c).policy = s.policy := rfl
@[simp] theorem State.withSeg_records (s : State) (n : SegNo) (c : SegCtl) : (s.withSeg n c).records = s.records := rfl
@[simp] theorem State.withSeg_pool (s : State) (n : SegNo) (c : SegCtl) : (s.withSeg n c).pool = s.pool := rfl
@[simp] theorem State.withSeg_rules (s : State) (n : SegNo) (c : SegCtl) : (s.withSeg n c).rules = s.rules := rfl
@[simp] theorem State.withSeg_groups (s : State) (n : SegNo) (c : SegCtl) : (s.withSeg n c).groups = s.groups := rfl
@[simp] theorem State.withSeg_slots (s : State) (n : SegNo) (c : SegCtl) : (s.withSeg n c).slots = s.slots := rfl
@[simp] theorem State.withSeg_due (s : State) (n : SegNo) (c : SegCtl) : (s.withSeg n c).due = s.due := rfl
@[simp] theorem State.withSeg_ranOut (s : State) (n : SegNo) (c : SegCtl) : (s.withSeg n c).ranOut = s.ranOut := rfl
@[simp] theorem State.withSeg_aging (s : State) (n : SegNo) (c : SegCtl) : (s.withSeg n c).aging = s.aging := rfl
@[simp] theorem State.withSeg_segs (s : State) (n : SegNo) (c : SegCtl) : (s.withSeg n c).segs = s.segs.set n c := rfl
@[simp] theorem State.withSeg_port (s : State) (n : SegNo) (c : SegCtl) : (s.withSeg n c).port = s.port := rfl
@[simp] theorem State.withSeg_sdo (s : State) (n : SegNo) (c : SegCtl) : (s.withSeg n c).sdo = s.sdo := rfl
@[simp] theorem State.withSeg_pending (s : State) (n : SegNo) (c : SegCtl) : (s.withSeg n c).pending = s.pending := rfl

@[simp] theorem State.withSlot_phase (s : State) (k : SlotNo) (c : Option Claim) :
    (s.withSlot k c).phase =
      s.phase := rfl
@[simp] theorem State.withSlot_engine (s : State) (k : SlotNo) (c : Option Claim) :
    (s.withSlot k c).engine =
      s.engine := rfl
@[simp] theorem State.withSlot_config (s : State) (k : SlotNo) (c : Option Claim) :
    (s.withSlot k c).config =
      s.config := rfl
@[simp] theorem State.withSlot_policy (s : State) (k : SlotNo) (c : Option Claim) :
    (s.withSlot k c).policy =
      s.policy := rfl
@[simp] theorem State.withSlot_records (s : State) (k : SlotNo) (c : Option Claim) :
    (s.withSlot k c).records =
      s.records := rfl
@[simp] theorem State.withSlot_pool (s : State) (k : SlotNo) (c : Option Claim) : (s.withSlot k c).pool = s.pool := rfl
@[simp] theorem State.withSlot_rules (s : State) (k : SlotNo) (c : Option Claim) :
    (s.withSlot k c).rules =
      s.rules := rfl
@[simp] theorem State.withSlot_groups (s : State) (k : SlotNo) (c : Option Claim) :
    (s.withSlot k c).groups =
      s.groups := rfl
@[simp] theorem State.withSlot_slots (s : State) (k : SlotNo) (c : Option Claim) :
    (s.withSlot k c).slots =
      s.slots.set k c := rfl
@[simp] theorem State.withSlot_due (s : State) (k : SlotNo) (c : Option Claim) : (s.withSlot k c).due = s.due := rfl
@[simp] theorem State.withSlot_ranOut (s : State) (k : SlotNo) (c : Option Claim) : (s.withSlot k c).ranOut = s.ranOut := rfl
@[simp] theorem State.withSlot_aging (s : State) (k : SlotNo) (c : Option Claim) :
    (s.withSlot k c).aging =
      s.aging := rfl
@[simp] theorem State.withSlot_segs (s : State) (k : SlotNo) (c : Option Claim) : (s.withSlot k c).segs = s.segs := rfl
@[simp] theorem State.withSlot_port (s : State) (k : SlotNo) (c : Option Claim) : (s.withSlot k c).port = s.port := rfl
@[simp] theorem State.withSlot_sdo (s : State) (k : SlotNo) (c : Option Claim) : (s.withSlot k c).sdo = s.sdo := rfl
@[simp] theorem State.withSlot_pending (s : State) (k : SlotNo) (c : Option Claim) :
    (s.withSlot k c).pending =
      s.pending := rfl

@[simp] theorem State.withDue_phase (s : State) (d : List SlotNo) : (s.withDue d).phase = s.phase := rfl
@[simp] theorem State.withDue_engine (s : State) (d : List SlotNo) : (s.withDue d).engine = s.engine := rfl
@[simp] theorem State.withDue_config (s : State) (d : List SlotNo) : (s.withDue d).config = s.config := rfl
@[simp] theorem State.withDue_policy (s : State) (d : List SlotNo) : (s.withDue d).policy = s.policy := rfl
@[simp] theorem State.withDue_records (s : State) (d : List SlotNo) : (s.withDue d).records = s.records := rfl
@[simp] theorem State.withDue_pool (s : State) (d : List SlotNo) : (s.withDue d).pool = s.pool := rfl
@[simp] theorem State.withDue_rules (s : State) (d : List SlotNo) : (s.withDue d).rules = s.rules := rfl
@[simp] theorem State.withDue_groups (s : State) (d : List SlotNo) : (s.withDue d).groups = s.groups := rfl
@[simp] theorem State.withDue_slots (s : State) (d : List SlotNo) : (s.withDue d).slots = s.slots := rfl
@[simp] theorem State.withDue_due (s : State) (d : List SlotNo) : (s.withDue d).due = d := rfl
@[simp] theorem State.withDue_ranOut (s : State) (d : List SlotNo) : (s.withDue d).ranOut = s.ranOut := rfl
@[simp] theorem State.withDue_aging (s : State) (d : List SlotNo) : (s.withDue d).aging = s.aging := rfl
@[simp] theorem State.withDue_segs (s : State) (d : List SlotNo) : (s.withDue d).segs = s.segs := rfl
@[simp] theorem State.withDue_port (s : State) (d : List SlotNo) : (s.withDue d).port = s.port := rfl
@[simp] theorem State.withDue_sdo (s : State) (d : List SlotNo) : (s.withDue d).sdo = s.sdo := rfl
@[simp] theorem State.withDue_pending (s : State) (d : List SlotNo) : (s.withDue d).pending = s.pending := rfl

@[simp] theorem State.withSdo_phase (s : State) (bs : List Byte) : (s.withSdo bs).phase = s.phase := rfl
@[simp] theorem State.withSdo_engine (s : State) (bs : List Byte) : (s.withSdo bs).engine = s.engine := rfl
@[simp] theorem State.withSdo_config (s : State) (bs : List Byte) : (s.withSdo bs).config = s.config := rfl
@[simp] theorem State.withSdo_policy (s : State) (bs : List Byte) : (s.withSdo bs).policy = s.policy := rfl
@[simp] theorem State.withSdo_records (s : State) (bs : List Byte) : (s.withSdo bs).records = s.records := rfl
@[simp] theorem State.withSdo_pool (s : State) (bs : List Byte) : (s.withSdo bs).pool = s.pool := rfl
@[simp] theorem State.withSdo_rules (s : State) (bs : List Byte) : (s.withSdo bs).rules = s.rules := rfl
@[simp] theorem State.withSdo_groups (s : State) (bs : List Byte) : (s.withSdo bs).groups = s.groups := rfl
@[simp] theorem State.withSdo_slots (s : State) (bs : List Byte) : (s.withSdo bs).slots = s.slots := rfl
@[simp] theorem State.withSdo_due (s : State) (bs : List Byte) : (s.withSdo bs).due = s.due := rfl
@[simp] theorem State.withSdo_ranOut (s : State) (bs : List Byte) : (s.withSdo bs).ranOut = s.ranOut := rfl
@[simp] theorem State.withSdo_aging (s : State) (bs : List Byte) : (s.withSdo bs).aging = s.aging := rfl
@[simp] theorem State.withSdo_segs (s : State) (bs : List Byte) : (s.withSdo bs).segs = s.segs := rfl
@[simp] theorem State.withSdo_port (s : State) (bs : List Byte) : (s.withSdo bs).port = s.port := rfl
@[simp] theorem State.withSdo_sdo (s : State) (bs : List Byte) : (s.withSdo bs).sdo = bs := rfl
@[simp] theorem State.withSdo_pending (s : State) (bs : List Byte) : (s.withSdo bs).pending = s.pending := rfl

@[simp] theorem State.raise_phase (s : State) (f : StickyFlag) : (s.raise f).phase = s.phase := rfl
@[simp] theorem State.raise_engine (s : State) (f : StickyFlag) : (s.raise f).engine = s.engine := rfl
@[simp] theorem State.raise_config (s : State) (f : StickyFlag) : (s.raise f).config = s.config := rfl
@[simp] theorem State.raise_policy (s : State) (f : StickyFlag) : (s.raise f).policy = s.policy := rfl
@[simp] theorem State.raise_records (s : State) (f : StickyFlag) : (s.raise f).records = s.records := rfl
@[simp] theorem State.raise_pool (s : State) (f : StickyFlag) : (s.raise f).pool = s.pool := rfl
@[simp] theorem State.raise_rules (s : State) (f : StickyFlag) : (s.raise f).rules = s.rules := rfl
@[simp] theorem State.raise_groups (s : State) (f : StickyFlag) : (s.raise f).groups = s.groups := rfl
@[simp] theorem State.raise_slots (s : State) (f : StickyFlag) : (s.raise f).slots = s.slots := rfl
@[simp] theorem State.raise_due (s : State) (f : StickyFlag) : (s.raise f).due = s.due := rfl
@[simp] theorem State.raise_ranOut (s : State) (f : StickyFlag) : (s.raise f).ranOut = s.ranOut := rfl
@[simp] theorem State.raise_aging (s : State) (f : StickyFlag) : (s.raise f).aging = s.aging := rfl
@[simp] theorem State.raise_segs (s : State) (f : StickyFlag) : (s.raise f).segs = s.segs := rfl
@[simp] theorem State.raise_port (s : State) (f : StickyFlag) : (s.raise f).port = s.port.raise f := rfl
@[simp] theorem State.raise_sdo (s : State) (f : StickyFlag) : (s.raise f).sdo = s.sdo := rfl
@[simp] theorem State.raise_pending (s : State) (f : StickyFlag) : (s.raise f).pending = s.pending := rfl

@[simp] theorem State.setRecord_phase (s : State) (i : RecNo) (r : Record) : (s.setRecord i r).phase = s.phase := rfl
@[simp] theorem State.setRecord_config (s : State) (i : RecNo) (r : Record) : (s.setRecord i r).config = s.config := rfl
@[simp] theorem State.setRecord_policy (s : State) (i : RecNo) (r : Record) : (s.setRecord i r).policy = s.policy := rfl
@[simp] theorem State.setRecord_records (s : State) (i : RecNo) (r : Record) :
    (s.setRecord i r).records =
      s.records.set i r := rfl
@[simp] theorem State.setRecord_pool (s : State) (i : RecNo) (r : Record) : (s.setRecord i r).pool = s.pool := rfl
@[simp] theorem State.setRecord_rules (s : State) (i : RecNo) (r : Record) : (s.setRecord i r).rules = s.rules := rfl
@[simp] theorem State.setRecord_slots (s : State) (i : RecNo) (r : Record) : (s.setRecord i r).slots = s.slots := rfl
@[simp] theorem State.setRecord_due (s : State) (i : RecNo) (r : Record) : (s.setRecord i r).due = s.due := rfl
@[simp] theorem State.setRecord_ranOut (s : State) (i : RecNo) (r : Record) : (s.setRecord i r).ranOut = s.ranOut := rfl
@[simp] theorem State.setRecord_aging (s : State) (i : RecNo) (r : Record) : (s.setRecord i r).aging = s.aging := rfl
@[simp] theorem State.setRecord_segs (s : State) (i : RecNo) (r : Record) : (s.setRecord i r).segs = s.segs := rfl
@[simp] theorem State.setRecord_port (s : State) (i : RecNo) (r : Record) : (s.setRecord i r).port = s.port := rfl
@[simp] theorem State.setRecord_sdo (s : State) (i : RecNo) (r : Record) : (s.setRecord i r).sdo = s.sdo := rfl
@[simp] theorem State.setRecord_pending (s : State) (i : RecNo) (r : Record) :
    (s.setRecord i r).pending =
      s.pending := rfl

@[simp] theorem State.changeRecord_phase (s : State) (i : RecNo) (r : Record) :
    (s.changeRecord i r).phase =
      s.phase := rfl
@[simp] theorem State.changeRecord_config (s : State) (i : RecNo) (r : Record) :
    (s.changeRecord i r).config =
      s.config := rfl
@[simp] theorem State.changeRecord_policy (s : State) (i : RecNo) (r : Record) :
    (s.changeRecord i r).policy =
      s.policy := rfl
@[simp] theorem State.changeRecord_records (s : State) (i : RecNo) (r : Record) :
    (s.changeRecord i r).records =
      s.records.set i (s.records[i].changed r) := rfl
@[simp] theorem State.changeRecord_pool (s : State) (i : RecNo) (r : Record) : (s.changeRecord i r).pool = s.pool := rfl
@[simp] theorem State.changeRecord_rules (s : State) (i : RecNo) (r : Record) :
    (s.changeRecord i r).rules =
      s.rules := rfl
@[simp] theorem State.changeRecord_slots (s : State) (i : RecNo) (r : Record) :
    (s.changeRecord i r).slots =
      s.slots := rfl
@[simp] theorem State.changeRecord_due (s : State) (i : RecNo) (r : Record) : (s.changeRecord i r).due = s.due := rfl
@[simp] theorem State.changeRecord_ranOut (s : State) (i : RecNo) (r : Record) : (s.changeRecord i r).ranOut = s.ranOut := rfl
@[simp] theorem State.changeRecord_aging (s : State) (i : RecNo) (r : Record) :
    (s.changeRecord i r).aging =
      s.aging := rfl
@[simp] theorem State.changeRecord_segs (s : State) (i : RecNo) (r : Record) : (s.changeRecord i r).segs = s.segs := rfl
@[simp] theorem State.changeRecord_port (s : State) (i : RecNo) (r : Record) : (s.changeRecord i r).port = s.port := rfl
@[simp] theorem State.changeRecord_sdo (s : State) (i : RecNo) (r : Record) : (s.changeRecord i r).sdo = s.sdo := rfl
@[simp] theorem State.changeRecord_pending (s : State) (i : RecNo) (r : Record) :
    (s.changeRecord i r).pending =
      s.pending := rfl

@[simp] theorem State.emptyRecord_phase (s : State) (i : RecNo) : (s.emptyRecord i).phase = s.phase := rfl
@[simp] theorem State.emptyRecord_config (s : State) (i : RecNo) : (s.emptyRecord i).config = s.config := rfl
@[simp] theorem State.emptyRecord_policy (s : State) (i : RecNo) : (s.emptyRecord i).policy = s.policy := rfl
@[simp] theorem State.emptyRecord_records (s : State) (i : RecNo) :
    (s.emptyRecord i).records =
      s.records.set i Record.empty := rfl
@[simp] theorem State.emptyRecord_pool (s : State) (i : RecNo) : (s.emptyRecord i).pool = s.pool := rfl
@[simp] theorem State.emptyRecord_rules (s : State) (i : RecNo) : (s.emptyRecord i).rules = s.rules := rfl
@[simp] theorem State.emptyRecord_slots (s : State) (i : RecNo) : (s.emptyRecord i).slots = s.slots := rfl
@[simp] theorem State.emptyRecord_due (s : State) (i : RecNo) : (s.emptyRecord i).due = s.due := rfl
@[simp] theorem State.emptyRecord_ranOut (s : State) (i : RecNo) : (s.emptyRecord i).ranOut = s.ranOut := rfl
@[simp] theorem State.emptyRecord_aging (s : State) (i : RecNo) : (s.emptyRecord i).aging = s.aging := rfl
@[simp] theorem State.emptyRecord_segs (s : State) (i : RecNo) : (s.emptyRecord i).segs = s.segs := rfl
@[simp] theorem State.emptyRecord_port (s : State) (i : RecNo) : (s.emptyRecord i).port = s.port := rfl
@[simp] theorem State.emptyRecord_sdo (s : State) (i : RecNo) : (s.emptyRecord i).sdo = s.sdo := rfl
@[simp] theorem State.emptyRecord_pending (s : State) (i : RecNo) : (s.emptyRecord i).pending = s.pending := rfl

@[simp] theorem State.pointTo_phase (s : State) (r : Requester) : (s.pointTo r).phase = s.phase := rfl
@[simp] theorem State.pointTo_engine (s : State) (r : Requester) :
    (s.pointTo r).engine =
      { s.engine with pointer := r } := rfl
@[simp] theorem State.pointTo_config (s : State) (r : Requester) : (s.pointTo r).config = s.config := rfl
@[simp] theorem State.pointTo_policy (s : State) (r : Requester) : (s.pointTo r).policy = s.policy := rfl
@[simp] theorem State.pointTo_records (s : State) (r : Requester) : (s.pointTo r).records = s.records := rfl
@[simp] theorem State.pointTo_pool (s : State) (r : Requester) : (s.pointTo r).pool = s.pool := rfl
@[simp] theorem State.pointTo_rules (s : State) (r : Requester) : (s.pointTo r).rules = s.rules := rfl
@[simp] theorem State.pointTo_groups (s : State) (r : Requester) : (s.pointTo r).groups = s.groups := rfl
@[simp] theorem State.pointTo_slots (s : State) (r : Requester) : (s.pointTo r).slots = s.slots := rfl
@[simp] theorem State.pointTo_due (s : State) (r : Requester) : (s.pointTo r).due = s.due := rfl
@[simp] theorem State.pointTo_ranOut (s : State) (r : Requester) : (s.pointTo r).ranOut = s.ranOut := rfl
@[simp] theorem State.pointTo_aging (s : State) (r : Requester) : (s.pointTo r).aging = s.aging := rfl
@[simp] theorem State.pointTo_segs (s : State) (r : Requester) : (s.pointTo r).segs = s.segs := rfl
@[simp] theorem State.pointTo_port (s : State) (r : Requester) : (s.pointTo r).port = s.port := rfl
@[simp] theorem State.pointTo_sdo (s : State) (r : Requester) : (s.pointTo r).sdo = s.sdo := rfl
@[simp] theorem State.pointTo_pending (s : State) (r : Requester) : (s.pointTo r).pending = s.pending := rfl

@[simp] theorem State.cancelExpiry_phase (s : State) (k : SlotNo) : (s.cancelExpiry k).phase = s.phase := rfl
@[simp] theorem State.cancelExpiry_engine (s : State) (k : SlotNo) : (s.cancelExpiry k).engine = s.engine := rfl
@[simp] theorem State.cancelExpiry_config (s : State) (k : SlotNo) : (s.cancelExpiry k).config = s.config := rfl
@[simp] theorem State.cancelExpiry_policy (s : State) (k : SlotNo) : (s.cancelExpiry k).policy = s.policy := rfl
@[simp] theorem State.cancelExpiry_records (s : State) (k : SlotNo) : (s.cancelExpiry k).records = s.records := rfl
@[simp] theorem State.cancelExpiry_pool (s : State) (k : SlotNo) : (s.cancelExpiry k).pool = s.pool := rfl
@[simp] theorem State.cancelExpiry_rules (s : State) (k : SlotNo) : (s.cancelExpiry k).rules = s.rules := rfl
@[simp] theorem State.cancelExpiry_groups (s : State) (k : SlotNo) : (s.cancelExpiry k).groups = s.groups := rfl
@[simp] theorem State.cancelExpiry_slots (s : State) (k : SlotNo) : (s.cancelExpiry k).slots = s.slots := rfl
@[simp] theorem State.cancelExpiry_due (s : State) (k : SlotNo) : (s.cancelExpiry k).due = s.due.filter (· != k) := rfl
@[simp] theorem State.cancelExpiry_ranOut (s : State) (k : SlotNo) : (s.cancelExpiry k).ranOut = s.ranOut := rfl
@[simp] theorem State.cancelExpiry_aging (s : State) (k : SlotNo) : (s.cancelExpiry k).aging = s.aging := rfl
@[simp] theorem State.cancelExpiry_segs (s : State) (k : SlotNo) : (s.cancelExpiry k).segs = s.segs := rfl
@[simp] theorem State.cancelExpiry_port (s : State) (k : SlotNo) : (s.cancelExpiry k).port = s.port := rfl
@[simp] theorem State.cancelExpiry_sdo (s : State) (k : SlotNo) : (s.cancelExpiry k).sdo = s.sdo := rfl
@[simp] theorem State.cancelExpiry_pending (s : State) (k : SlotNo) : (s.cancelExpiry k).pending = s.pending := rfl

@[simp] theorem State.freeSlot_phase (s : State) (k : SlotNo) : (s.freeSlot k).phase = s.phase := rfl
@[simp] theorem State.freeSlot_engine (s : State) (k : SlotNo) : (s.freeSlot k).engine = s.engine := rfl
@[simp] theorem State.freeSlot_config (s : State) (k : SlotNo) : (s.freeSlot k).config = s.config := rfl
@[simp] theorem State.freeSlot_policy (s : State) (k : SlotNo) : (s.freeSlot k).policy = s.policy := rfl
@[simp] theorem State.freeSlot_records (s : State) (k : SlotNo) : (s.freeSlot k).records = s.records := rfl
@[simp] theorem State.freeSlot_pool (s : State) (k : SlotNo) : (s.freeSlot k).pool = s.pool := rfl
@[simp] theorem State.freeSlot_rules (s : State) (k : SlotNo) : (s.freeSlot k).rules = s.rules := rfl
@[simp] theorem State.freeSlot_groups (s : State) (k : SlotNo) : (s.freeSlot k).groups = s.groups := rfl
@[simp] theorem State.freeSlot_slots (s : State) (k : SlotNo) : (s.freeSlot k).slots = s.slots.set k none := rfl
@[simp] theorem State.freeSlot_due (s : State) (k : SlotNo) : (s.freeSlot k).due = s.due.filter (· != k) := rfl
@[simp] theorem State.freeSlot_ranOut (s : State) (k : SlotNo) : (s.freeSlot k).ranOut = s.ranOut := rfl
@[simp] theorem State.freeSlot_aging (s : State) (k : SlotNo) : (s.freeSlot k).aging = s.aging := rfl
@[simp] theorem State.freeSlot_segs (s : State) (k : SlotNo) : (s.freeSlot k).segs = s.segs := rfl
@[simp] theorem State.freeSlot_port (s : State) (k : SlotNo) : (s.freeSlot k).port = s.port := rfl
@[simp] theorem State.freeSlot_sdo (s : State) (k : SlotNo) : (s.freeSlot k).sdo = s.sdo := rfl
@[simp] theorem State.freeSlot_pending (s : State) (k : SlotNo) : (s.freeSlot k).pending = s.pending := rfl

@[simp] theorem State.drawNonce_phase (s : State) : (s.drawNonce).phase = s.phase := rfl
@[simp] theorem State.drawNonce_engine (s : State) :
    (s.drawNonce).engine =
      { s.engine with nonce := nextNonce s.engine.nonce } := rfl
@[simp] theorem State.drawNonce_config (s : State) : (s.drawNonce).config = s.config := rfl
@[simp] theorem State.drawNonce_policy (s : State) : (s.drawNonce).policy = s.policy := rfl
@[simp] theorem State.drawNonce_records (s : State) : (s.drawNonce).records = s.records := rfl
@[simp] theorem State.drawNonce_pool (s : State) : (s.drawNonce).pool = s.pool := rfl
@[simp] theorem State.drawNonce_rules (s : State) : (s.drawNonce).rules = s.rules := rfl
@[simp] theorem State.drawNonce_groups (s : State) : (s.drawNonce).groups = s.groups := rfl
@[simp] theorem State.drawNonce_slots (s : State) : (s.drawNonce).slots = s.slots := rfl
@[simp] theorem State.drawNonce_due (s : State) : (s.drawNonce).due = s.due := rfl
@[simp] theorem State.drawNonce_ranOut (s : State) : (s.drawNonce).ranOut = s.ranOut := rfl
@[simp] theorem State.drawNonce_aging (s : State) : (s.drawNonce).aging = s.aging := rfl
@[simp] theorem State.drawNonce_segs (s : State) : (s.drawNonce).segs = s.segs := rfl
@[simp] theorem State.drawNonce_port (s : State) : (s.drawNonce).port = s.port := rfl
@[simp] theorem State.drawNonce_sdo (s : State) : (s.drawNonce).sdo = s.sdo := rfl
@[simp] theorem State.drawNonce_pending (s : State) : (s.drawNonce).pending = s.pending := rfl

@[simp] theorem State.removeOffers_phase (s : State) (nonce : BitVec 16) : (s.removeOffers nonce).phase = s.phase := rfl
@[simp] theorem State.removeOffers_engine (s : State) (nonce : BitVec 16) :
    (s.removeOffers nonce).engine =
      s.engine := rfl
@[simp] theorem State.removeOffers_config (s : State) (nonce : BitVec 16) :
    (s.removeOffers nonce).config =
      s.config := rfl
@[simp] theorem State.removeOffers_policy (s : State) (nonce : BitVec 16) :
    (s.removeOffers nonce).policy =
      s.policy := rfl
@[simp] theorem State.removeOffers_records (s : State) (nonce : BitVec 16) :
    (s.removeOffers nonce).records =
      s.records := rfl
@[simp] theorem State.removeOffers_pool (s : State) (nonce : BitVec 16) : (s.removeOffers nonce).pool = s.pool := rfl
@[simp] theorem State.removeOffers_rules (s : State) (nonce : BitVec 16) : (s.removeOffers nonce).rules = s.rules := rfl
@[simp] theorem State.removeOffers_groups (s : State) (nonce : BitVec 16) :
    (s.removeOffers nonce).groups =
      s.groups := rfl
@[simp] theorem State.removeOffers_slots (s : State) (nonce : BitVec 16) : (s.removeOffers nonce).slots = s.slots := rfl
@[simp] theorem State.removeOffers_due (s : State) (nonce : BitVec 16) : (s.removeOffers nonce).due = s.due := rfl
@[simp] theorem State.removeOffers_ranOut (s : State) (nonce : BitVec 16) : (s.removeOffers nonce).ranOut = s.ranOut := rfl
@[simp] theorem State.removeOffers_aging (s : State) (nonce : BitVec 16) : (s.removeOffers nonce).aging = s.aging := rfl
@[simp] theorem State.removeOffers_segs (s : State) (nonce : BitVec 16) :
    (s.removeOffers nonce).segs =
      tabulate 4 fun n => s.segs[n].dropOffers nonce := rfl
@[simp] theorem State.removeOffers_port (s : State) (nonce : BitVec 16) : (s.removeOffers nonce).port = s.port := rfl
@[simp] theorem State.removeOffers_sdo (s : State) (nonce : BitVec 16) : (s.removeOffers nonce).sdo = s.sdo := rfl
@[simp] theorem State.removeOffers_pending (s : State) (nonce : BitVec 16) :
    (s.removeOffers nonce).pending =
      s.pending := rfl

@[simp] theorem State.place_phase (s : State) (n : SegNo) (dest : Address) (m : Message) :
    (s.place n dest m).phase =
      s.phase := rfl
@[simp] theorem State.place_engine (s : State) (n : SegNo) (dest : Address) (m : Message) :
    (s.place n dest m).engine =
      s.engine := rfl
@[simp] theorem State.place_config (s : State) (n : SegNo) (dest : Address) (m : Message) :
    (s.place n dest m).config =
      s.config := rfl
@[simp] theorem State.place_policy (s : State) (n : SegNo) (dest : Address) (m : Message) :
    (s.place n dest m).policy =
      s.policy := rfl
@[simp] theorem State.place_records (s : State) (n : SegNo) (dest : Address) (m : Message) :
    (s.place n dest m).records =
      s.records := rfl
@[simp] theorem State.place_pool (s : State) (n : SegNo) (dest : Address) (m : Message) :
    (s.place n dest m).pool =
      s.pool := rfl
@[simp] theorem State.place_rules (s : State) (n : SegNo) (dest : Address) (m : Message) :
    (s.place n dest m).rules =
      s.rules := rfl
@[simp] theorem State.place_groups (s : State) (n : SegNo) (dest : Address) (m : Message) :
    (s.place n dest m).groups =
      s.groups := rfl
@[simp] theorem State.place_slots (s : State) (n : SegNo) (dest : Address) (m : Message) :
    (s.place n dest m).slots =
      s.slots := rfl
@[simp] theorem State.place_due (s : State) (n : SegNo) (dest : Address) (m : Message) :
    (s.place n dest m).due =
      s.due := rfl
@[simp] theorem State.place_ranOut (s : State) (n : SegNo) (dest : Address) (m : Message) :
    (s.place n dest m).ranOut =
      s.ranOut := rfl
@[simp] theorem State.place_aging (s : State) (n : SegNo) (dest : Address) (m : Message) :
    (s.place n dest m).aging =
      s.aging := rfl
@[simp] theorem State.place_segs (s : State) (n : SegNo) (dest : Address) (m : Message) :
    (s.place n dest m).segs =
      s.segs.set n (if s.segs[n].room then s.segs[n].enqueue dest m else s.segs[n].refusePlacement) := rfl
@[simp] theorem State.place_port (s : State) (n : SegNo) (dest : Address) (m : Message) :
    (s.place n dest m).port =
      s.port := rfl
@[simp] theorem State.place_sdo (s : State) (n : SegNo) (dest : Address) (m : Message) :
    (s.place n dest m).sdo =
      s.sdo := rfl
@[simp] theorem State.place_pending (s : State) (n : SegNo) (dest : Address) (m : Message) :
    (s.place n dest m).pending =
      s.pending := rfl

@[simp] theorem State.takeFrame_phase (s : State) (n : SegNo) : (s.takeFrame n).phase = s.phase := rfl
@[simp] theorem State.takeFrame_engine (s : State) (n : SegNo) :
    (s.takeFrame n).engine =
      { s.engine with pointer := .seg n } := rfl
@[simp] theorem State.takeFrame_config (s : State) (n : SegNo) : (s.takeFrame n).config = s.config := rfl
@[simp] theorem State.takeFrame_policy (s : State) (n : SegNo) : (s.takeFrame n).policy = s.policy := rfl
@[simp] theorem State.takeFrame_records (s : State) (n : SegNo) : (s.takeFrame n).records = s.records := rfl
@[simp] theorem State.takeFrame_pool (s : State) (n : SegNo) : (s.takeFrame n).pool = s.pool := rfl
@[simp] theorem State.takeFrame_rules (s : State) (n : SegNo) : (s.takeFrame n).rules = s.rules := rfl
@[simp] theorem State.takeFrame_groups (s : State) (n : SegNo) : (s.takeFrame n).groups = s.groups := rfl
@[simp] theorem State.takeFrame_slots (s : State) (n : SegNo) : (s.takeFrame n).slots = s.slots := rfl
@[simp] theorem State.takeFrame_due (s : State) (n : SegNo) : (s.takeFrame n).due = s.due := rfl
@[simp] theorem State.takeFrame_ranOut (s : State) (n : SegNo) : (s.takeFrame n).ranOut = s.ranOut := rfl
@[simp] theorem State.takeFrame_aging (s : State) (n : SegNo) : (s.takeFrame n).aging = s.aging := rfl
@[simp] theorem State.takeFrame_segs (s : State) (n : SegNo) :
    (s.takeFrame n).segs =
      s.segs.set n s.segs[n].takeFrame := rfl
@[simp] theorem State.takeFrame_port (s : State) (n : SegNo) : (s.takeFrame n).port = s.port := rfl
@[simp] theorem State.takeFrame_sdo (s : State) (n : SegNo) : (s.takeFrame n).sdo = s.sdo := rfl
@[simp] theorem State.takeFrame_pending (s : State) (n : SegNo) : (s.takeFrame n).pending = s.pending := rfl

@[simp] theorem State.answer_phase (s : State) (r : Request) (a : Answer) : (s.answer r a).phase = s.phase := rfl
@[simp] theorem State.answer_engine (s : State) (r : Request) (a : Answer) : (s.answer r a).engine = s.engine := rfl
@[simp] theorem State.answer_config (s : State) (r : Request) (a : Answer) : (s.answer r a).config = s.config := rfl
@[simp] theorem State.answer_policy (s : State) (r : Request) (a : Answer) : (s.answer r a).policy = s.policy := rfl
@[simp] theorem State.answer_records (s : State) (r : Request) (a : Answer) : (s.answer r a).records = s.records := rfl
@[simp] theorem State.answer_pool (s : State) (r : Request) (a : Answer) : (s.answer r a).pool = s.pool := rfl
@[simp] theorem State.answer_rules (s : State) (r : Request) (a : Answer) : (s.answer r a).rules = s.rules := rfl
@[simp] theorem State.answer_groups (s : State) (r : Request) (a : Answer) : (s.answer r a).groups = s.groups := rfl
@[simp] theorem State.answer_slots (s : State) (r : Request) (a : Answer) : (s.answer r a).slots = s.slots := rfl
@[simp] theorem State.answer_due (s : State) (r : Request) (a : Answer) : (s.answer r a).due = s.due := rfl
@[simp] theorem State.answer_ranOut (s : State) (r : Request) (a : Answer) : (s.answer r a).ranOut = s.ranOut := rfl
@[simp] theorem State.answer_aging (s : State) (r : Request) (a : Answer) : (s.answer r a).aging = s.aging := rfl
@[simp] theorem State.answer_segs (s : State) (r : Request) (a : Answer) : (s.answer r a).segs = s.segs := rfl
@[simp] theorem State.answer_port (s : State) (r : Request) (a : Answer) :
    (s.answer r a).port =
      { s.port with
        requests := s.port.requests.tail
        responses := s.port.responses ++ [⟨r.tag, r.command, a.status, a.payload⟩] } := rfl
@[simp] theorem State.answer_sdo (s : State) (r : Request) (a : Answer) : (s.answer r a).sdo = s.sdo := rfl
@[simp] theorem State.answer_pending (s : State) (r : Request) (a : Answer) : (s.answer r a).pending = s.pending := rfl

@[simp] theorem State.setRecord_engine_mode (s : State) (i : RecNo) (r : Record) :
    (s.setRecord i r).engine.mode = s.engine.mode := rfl
@[simp] theorem State.setRecord_engine_pointer (s : State) (i : RecNo) (r : Record) :
    (s.setRecord i r).engine.pointer = s.engine.pointer := rfl
@[simp] theorem State.setRecord_engine_sweeping (s : State) (i : RecNo) (r : Record) :
    (s.setRecord i r).engine.sweeping = s.engine.sweeping := rfl
@[simp] theorem State.setRecord_engine_sweepNext (s : State) (i : RecNo) (r : Record) :
    (s.setRecord i r).engine.sweepNext = s.engine.sweepNext := rfl
@[simp] theorem State.setRecord_engine_owed (s : State) (i : RecNo) (r : Record) :
    (s.setRecord i r).engine.owed = s.engine.owed := rfl
@[simp] theorem State.setRecord_engine_flushing (s : State) (i : RecNo) (r : Record) :
    (s.setRecord i r).engine.flushing = s.engine.flushing := rfl
@[simp] theorem State.setRecord_engine_flushNext (s : State) (i : RecNo) (r : Record) :
    (s.setRecord i r).engine.flushNext = s.engine.flushNext := rfl
@[simp] theorem State.setRecord_engine_emptied (s : State) (i : RecNo) (r : Record) :
    (s.setRecord i r).engine.emptied = s.engine.emptied := rfl
@[simp] theorem State.setRecord_engine_nonce (s : State) (i : RecNo) (r : Record) :
    (s.setRecord i r).engine.nonce = s.engine.nonce := rfl

@[simp] theorem State.changeRecord_engine_mode (s : State) (i : RecNo) (r : Record) :
    (s.changeRecord i r).engine.mode = s.engine.mode := rfl
@[simp] theorem State.changeRecord_engine_pointer (s : State) (i : RecNo) (r : Record) :
    (s.changeRecord i r).engine.pointer = s.engine.pointer := rfl
@[simp] theorem State.changeRecord_engine_sweeping (s : State) (i : RecNo) (r : Record) :
    (s.changeRecord i r).engine.sweeping = s.engine.sweeping := rfl
@[simp] theorem State.changeRecord_engine_sweepNext (s : State) (i : RecNo) (r : Record) :
    (s.changeRecord i r).engine.sweepNext = s.engine.sweepNext := rfl
@[simp] theorem State.changeRecord_engine_owed (s : State) (i : RecNo) (r : Record) :
    (s.changeRecord i r).engine.owed = s.engine.owed := rfl
@[simp] theorem State.changeRecord_engine_flushing (s : State) (i : RecNo) (r : Record) :
    (s.changeRecord i r).engine.flushing = s.engine.flushing := rfl
@[simp] theorem State.changeRecord_engine_flushNext (s : State) (i : RecNo) (r : Record) :
    (s.changeRecord i r).engine.flushNext = s.engine.flushNext := rfl
@[simp] theorem State.changeRecord_engine_emptied (s : State) (i : RecNo) (r : Record) :
    (s.changeRecord i r).engine.emptied = s.engine.emptied := rfl
@[simp] theorem State.changeRecord_engine_nonce (s : State) (i : RecNo) (r : Record) :
    (s.changeRecord i r).engine.nonce = s.engine.nonce := rfl

@[simp] theorem State.emptyRecord_engine_mode (s : State) (i : RecNo) :
    (s.emptyRecord i).engine.mode = s.engine.mode := rfl
@[simp] theorem State.emptyRecord_engine_pointer (s : State) (i : RecNo) :
    (s.emptyRecord i).engine.pointer = s.engine.pointer := rfl
@[simp] theorem State.emptyRecord_engine_sweeping (s : State) (i : RecNo) :
    (s.emptyRecord i).engine.sweeping = s.engine.sweeping := rfl
@[simp] theorem State.emptyRecord_engine_sweepNext (s : State) (i : RecNo) :
    (s.emptyRecord i).engine.sweepNext = s.engine.sweepNext := rfl
@[simp] theorem State.emptyRecord_engine_owed (s : State) (i : RecNo) :
    (s.emptyRecord i).engine.owed = s.engine.owed := rfl
@[simp] theorem State.emptyRecord_engine_flushing (s : State) (i : RecNo) :
    (s.emptyRecord i).engine.flushing = s.engine.flushing := rfl
@[simp] theorem State.emptyRecord_engine_flushNext (s : State) (i : RecNo) :
    (s.emptyRecord i).engine.flushNext = s.engine.flushNext := rfl
@[simp] theorem State.emptyRecord_engine_emptied (s : State) (i : RecNo) :
    (s.emptyRecord i).engine.emptied = s.engine.emptied := rfl
@[simp] theorem State.emptyRecord_engine_nonce (s : State) (i : RecNo) :
    (s.emptyRecord i).engine.nonce = s.engine.nonce := rfl

end Sys2Proof.Machine
end

