-- ==== Sys2Proof/Laws/Ops.lean ====
section
/-! SUPPORT. For each shared operation, one lemma that says once everything it can do. -/

namespace Sys2Proof.Machine

/-! ### The arbiter -/

/-- Granted work is presented by some requester. -/
theorem granted_presents {s : State} {w : Work} (h : s.granted = some w) : ∃ q, s.presents q = some w := by
  obtain ⟨q, _, hq⟩ := List.exists_of_findSome?_eq_some h
  exact ⟨q, hq⟩

/-- HOST presents its head request alone, untaken, and not a flush that waits for a sweep. -/
theorem hostWork_eq_some {s : State} {w : Work} (h : s.hostWork = some w) :
    ∃ r rest, w = .request r ∧ s.port.requests = r :: rest ∧ r.taken = false
      ∧ ¬(r.command = flushCode ∧ s.engine.mode = .running ∧ s.engine.sweeping = true) := by
  unfold State.hostWork at h
  split at h
  · simp at h
  · next r rest hr =>
    refine ⟨r, rest, ?_⟩
    split at h
    · simp at h
    · next ht =>
      split at h
      · simp at h
      · next hw => exact ⟨(Option.some.inj h).symm, hr, by simpa using ht, hw⟩

/-- SEGn presents a fault notice, else its oldest transmit notice, else its oldest frame. -/
theorem segWork_eq_some {s : State} {n : SegNo} {w : Work} (h : s.segWork n = some w) :
    (w = .faultNotice n ∧ s.segs[n].faultNotice = true)
      ∨ (∃ x rest, w = .notice n x ∧ s.segs[n].faultNotice = false ∧ s.segs[n].notices = x :: rest)
      ∨ (∃ f rest, w = .frame n f ∧ s.segs[n].faultNotice = false ∧ s.segs[n].notices = []
          ∧ s.segs[n].rx = f :: rest) := by
  unfold State.segWork at h
  split at h
  · next hf => exact .inl ⟨(Option.some.inj h).symm, hf⟩
  · next hf =>
    have hf : s.segs[n].faultNotice = false := by simpa using hf
    split at h
    · next x rest hx => exact .inr (.inl ⟨x, rest, (Option.some.inj h).symm, hf, hx⟩)
    · next hx =>
      split at h
      · next f rest hr => exact .inr (.inr ⟨f, rest, (Option.some.inj h).symm, hf, hx, hr⟩)
      · simp at h

/-- TIMER presents the oldest due expiry, else a sweep step, else a flush step. -/
theorem timerWork_eq_some {s : State} {w : Work} (h : s.timerWork = some w) :
    (∃ k rest, w = .expiry k ∧ s.due = k :: rest)
      ∨ (w = .sweepStep s.engine.sweepNext ∧ s.due = [] ∧ s.engine.sweeping = true)
      ∨ (w = .flushStep s.engine.flushNext ∧ s.due = [] ∧ s.engine.sweeping = false ∧ s.engine.flushing = true) := by
  unfold State.timerWork at h
  split at h
  · next k rest hk => exact .inl ⟨k, rest, (Option.some.inj h).symm, hk⟩
  · next hd =>
    split at h
    · next hs => exact .inr (.inl ⟨(Option.some.inj h).symm, hd, hs⟩)
    · next hs =>
      split at h
      · next hf => exact .inr (.inr ⟨(Option.some.inj h).symm, hd, by simpa using hs, hf⟩)
      · simp at h

/-- A granted request is the untaken head of the request queue. -/
theorem granted_request {s : State} {r : Request} (h : s.granted = some (.request r)) :
    ∃ rest, s.port.requests = r :: rest ∧ r.taken = false
      ∧ ¬(r.command = flushCode ∧ s.engine.mode = .running ∧ s.engine.sweeping = true) := by
  obtain ⟨q, hq⟩ := granted_presents h
  cases q with
  | host =>
    obtain ⟨r', rest, hw, hr⟩ := hostWork_eq_some hq
    cases hw
    exact ⟨rest, hr⟩
  | seg n => rcases segWork_eq_some hq with ⟨hw, _⟩ | ⟨x, _, hw, _⟩ | ⟨f, _, hw, _⟩ <;> cases hw
  | timer => rcases timerWork_eq_some hq with ⟨k, _, hw, _⟩ | ⟨hw, _⟩ | ⟨hw, _⟩ <;> cases hw

/-- A granted frame is the oldest of its receive queue, and its controller holds no notice. -/
theorem granted_frame {s : State} {n : SegNo} {f : RxFrame} (h : s.granted = some (.frame n f)) :
    ∃ rest, s.segs[n].rx = f :: rest ∧ s.segs[n].notices = [] ∧ s.segs[n].faultNotice = false := by
  obtain ⟨q, hq⟩ := granted_presents h
  cases q with
  | host => obtain ⟨r, rest, hw, _⟩ := hostWork_eq_some hq; cases hw
  | seg m =>
    rcases segWork_eq_some hq with ⟨hw, _⟩ | ⟨x, _, hw, _⟩ | ⟨f', rest, hw, hf, hx, hr⟩
    · cases hw
    · cases hw
    · cases hw; exact ⟨rest, hr, hx, hf⟩
  | timer => rcases timerWork_eq_some hq with ⟨k, _, hw, _⟩ | ⟨hw, _⟩ | ⟨hw, _⟩ <;> cases hw

/-- A granted transmit notice is the oldest of its controller. -/
theorem granted_notice {s : State} {n : SegNo} {x : Notice} (h : s.granted = some (.notice n x)) :
    ∃ rest, s.segs[n].notices = x :: rest ∧ s.segs[n].faultNotice = false := by
  obtain ⟨q, hq⟩ := granted_presents h
  cases q with
  | host => obtain ⟨r, rest, hw, _⟩ := hostWork_eq_some hq; cases hw
  | seg m =>
    rcases segWork_eq_some hq with ⟨hw, _⟩ | ⟨x', rest, hw, hf, hx⟩ | ⟨f', _, hw, _⟩
    · cases hw
    · cases hw; exact ⟨rest, hx, hf⟩
    · cases hw
  | timer => rcases timerWork_eq_some hq with ⟨k, _, hw, _⟩ | ⟨hw, _⟩ | ⟨hw, _⟩ <;> cases hw

/-- A granted fault notice is held by its controller. -/
theorem granted_faultNotice {s : State} {n : SegNo} (h : s.granted = some (.faultNotice n)) :
    s.segs[n].faultNotice = true := by
  obtain ⟨q, hq⟩ := granted_presents h
  cases q with
  | host => obtain ⟨r, rest, hw, _⟩ := hostWork_eq_some hq; cases hw
  | seg m =>
    rcases segWork_eq_some hq with ⟨hw, hf⟩ | ⟨x, _, hw, _⟩ | ⟨f', _, hw, _⟩
    · cases hw; exact hf
    · cases hw
    · cases hw
  | timer => rcases timerWork_eq_some hq with ⟨k, _, hw, _⟩ | ⟨hw, _⟩ | ⟨hw, _⟩ <;> cases hw

/-- A granted expiry is the oldest due. -/
theorem granted_expiry {s : State} {k : SlotNo} (h : s.granted = some (.expiry k)) : ∃ rest, s.due = k :: rest := by
  obtain ⟨q, hq⟩ := granted_presents h
  cases q with
  | host => obtain ⟨r, rest, hw, _⟩ := hostWork_eq_some hq; cases hw
  | seg n => rcases segWork_eq_some hq with ⟨hw, _⟩ | ⟨x, _, hw, _⟩ | ⟨f, _, hw, _⟩ <;> cases hw
  | timer =>
    rcases timerWork_eq_some hq with ⟨k', rest, hw, hd⟩ | ⟨hw, _⟩ | ⟨hw, _⟩
    · cases hw; exact ⟨rest, hd⟩
    · cases hw
    · cases hw

/-- A granted sweep step is the next step of a sweep in flight. -/
theorem granted_sweepStep {s : State} {x : SweepStep} (h : s.granted = some (.sweepStep x)) :
    s.engine.sweeping = true ∧ s.engine.sweepNext = x := by
  obtain ⟨q, hq⟩ := granted_presents h
  cases q with
  | host => obtain ⟨r, rest, hw, _⟩ := hostWork_eq_some hq; cases hw
  | seg n => rcases segWork_eq_some hq with ⟨hw, _⟩ | ⟨x, _, hw, _⟩ | ⟨f, _, hw, _⟩ <;> cases hw
  | timer =>
    rcases timerWork_eq_some hq with ⟨k', rest, hw, hd⟩ | ⟨hw, _, hs⟩ | ⟨hw, _⟩
    · cases hw
    · cases hw; exact ⟨hs, rfl⟩
    · cases hw

/-- A granted flush step is the next record of a flush in flight. -/
theorem granted_flushStep {s : State} {i : RecNo} (h : s.granted = some (.flushStep i)) :
    s.engine.flushing = true ∧ s.engine.sweeping = false ∧ s.engine.flushNext = i := by
  obtain ⟨q, hq⟩ := granted_presents h
  cases q with
  | host => obtain ⟨r, rest, hw, _⟩ := hostWork_eq_some hq; cases hw
  | seg n => rcases segWork_eq_some hq with ⟨hw, _⟩ | ⟨x, _, hw, _⟩ | ⟨f, _, hw, _⟩ <;> cases hw
  | timer =>
    rcases timerWork_eq_some hq with ⟨k', rest, hw, hd⟩ | ⟨hw, _⟩ | ⟨hw, _, hs, hf⟩
    · cases hw
    · cases hw
    · cases hw; exact ⟨hf, hs, rfl⟩

/-- A served request: performed and answered, answered for its LENGTH, or the step is not taken. -/
theorem serve_cases (s : State) (code : Byte) (length : Nat) (run : List Byte → State → State × Answer) :
    (∃ r, s.granted = some (.request r) ∧ r.command = code ∧ r.payload.length = length
        ∧ s.serve code length run = ((run r.payload (s.pointTo .host)).1).answer r (run r.payload (s.pointTo .host)).2)
      ∨ (∃ r, s.granted = some (.request r) ∧ r.command = code ∧ r.payload.length ≠ length
        ∧ s.serve code length run = (s.pointTo .host).answer r (.badField 0))
      ∨ s.serve code length run = s := by
  unfold State.serve
  split
  · next r hr =>
    by_cases hc : r.command = code
    · by_cases hl : r.payload.length = length
      · exact .inl ⟨r, hr, hc, hl, by rw [if_pos hc, if_pos hl]⟩
      · exact .inr (.inl ⟨r, hr, hc, hl, by rw [if_pos hc, if_neg hl]⟩)
    · exact .inr (.inr (by rw [if_neg hc]))
  · exact .inr (.inr rfl)

/-- A frame taken: its message performed in the state without it, or the step is not taken. -/
theorem onFrame_cases (s : State) (n : SegNo) (run : Address → FieldMessage → State → Option State) :
    (∃ f t, s.granted = some (.frame n f) ∧ run f.source f.message (s.takeFrame n) = some t ∧ s.onFrame n run = t)
      ∨ s.onFrame n run = s := by
  unfold State.onFrame
  split
  · next m f hf =>
    by_cases hm : m = n
    · subst hm
      cases hr : run f.source f.message (s.takeFrame m) with
      | none => exact .inr (by simp)
      | some t => exact .inl ⟨f, t, hf, hr, by simp⟩
    · exact .inr (by rw [if_neg hm])
  · exact .inr rfl

/-! ### Records -/

/-- The record written reads back, and every other record reads as before. -/
theorem setRecord_records (s : State) (i j : RecNo) (r : Record) :
    (s.setRecord i r).records[j] = if i = j then r else s.records[j] := by
  simp [Vector.getElem_set, Fin.ext_iff]

theorem changeRecord_records (s : State) (i j : RecNo) (r : Record) :
    (s.changeRecord i r).records[j] = if i = j then s.records[i].changed r else s.records[j] := by
  simp [Vector.getElem_set, Fin.ext_iff]

theorem emptyRecord_records (s : State) (i j : RecNo) :
    (s.emptyRecord i).records[j] = if i = j then Record.empty else s.records[j] := by
  simp [Vector.getElem_set, Fin.ext_iff]

/-- The attention count follows a record's set. -/
theorem setRecord_attnCount (s : State) (i : RecNo) (r : Record) :
    (s.setRecord i r).engine.attnCount = s.engine.attnCount + r.attentive - s.records[i].attentive := rfl

/-- A member count follows a record's contribution; nothing else of a group record changes. -/
theorem setRecord_groups (s : State) (i : RecNo) (r : Record) (g : GroupNo) :
    (s.setRecord i r).groups[g] =
      { s.groups[g] with members := s.groups[g].members + r.countsFor g - s.records[i].countsFor g } := by
  simp [State.setRecord]

/-- A changed record is the new one but for its generation, which moves on exactly when a tracked field changed. -/
theorem changed_eq (old new : Record) :
    old.changed new =
      { new with generation := if old.sameTracked new then old.generation else nextGeneration old.generation } := rfl

/-- No generation is followed by 0000h. -/
theorem nextGeneration_ne_zero (g : BitVec 16) : nextGeneration g ≠ 0 := by
  unfold nextGeneration
  split
  · decide
  · next h => intro h0; exact h (by bv_omega)

/-- No nonce is followed by 0000h. -/
theorem nextNonce_ne_zero (n : BitVec 16) : nextNonce n ≠ 0 := by
  unfold nextNonce
  split
  · decide
  · next h => intro h0; exact h (by bv_omega)

/-- A placed record: the tombstone it overwrites sets NOTICE_LOST, and it takes generation 0001h. -/
theorem placeRecord_eq (s : State) (i : RecNo) (r : Record) :
    s.placeRecord i r =
      (if s.records[i].state = .retired then s.raise .noticeLost else s).setRecord i { r with generation := 1 } := rfl

/-- A way found by placement is EMPTY or RETIRED and lies in the bucket. -/
theorem placementWay_eq_some {s : State} {id : ModuleId} {i : RecNo} (h : s.placementWay id = some i) :
    i ∈ waysOf (bucketOf id) ∧ (s.records[i].state = .empty ∨ s.records[i].state = .retired) := by
  unfold State.placementWay at h
  rw [Option.or_eq_some_iff] at h
  rcases h with h | ⟨_, h⟩
  · exact ⟨List.mem_of_find?_eq_some h, .inl (by simpa using List.find?_some h)⟩
  · exact ⟨List.mem_of_find?_eq_some h, .inr (by simpa using List.find?_some h)⟩

/-- A record found by ID is findable, lies in the bucket and holds the ID. -/
theorem lookup_eq_some {s : State} {id : ModuleId} {i : RecNo} (h : s.lookup id = some i) :
    i ∈ waysOf (bucketOf id) ∧ s.records[i].findable = true ∧ s.records[i].id = some id := by
  unfold State.lookup at h
  have := List.find?_some h
  simp only [Bool.and_eq_true, beq_iff_eq] at this
  exact ⟨List.mem_of_find?_eq_some h, this.1, this.2⟩

/-- A lookup that finds nothing: no record of the bucket is findable and holds the ID. -/
theorem lookup_eq_none {s : State} {id : ModuleId} (h : s.lookup id = none) (i : RecNo)
    (hi : i ∈ waysOf (bucketOf id)) (hf : s.records[i].findable = true) : s.records[i].id ≠ some id := by
  unfold State.lookup at h
  have := List.find?_eq_none.mp h i hi
  intro hid
  rw [hf, hid] at this
  simp at this

/-- The ways of a bucket are the four records that share its number. -/
theorem mem_waysOf {b : Fin 64} {i : RecNo} : i ∈ waysOf b ↔ i.val / 4 = b.val := by
  simp only [waysOf, recordIndex, List.mem_cons, List.not_mem_nil, or_false, Fin.ext_iff]
  simp only [Fin.val_zero, Fin.val_one, Fin.val_two]
  have h3 : ((3 : Fin 4) : Nat) = 3 := rfl
  omega

/-! ### The pool -/

@[simp] theorem mark_map (p : Pool) (a b : Address) (place : Place) :
    (p.mark a place).map[b.toFin] = if a = b then place else p.map[b.toFin] := by
  simp only [Pool.mark, Fin.getElem_fin, Vector.getElem_set]
  congr 1
  simp [← BitVec.toNat_inj]

@[simp] theorem mark_free (p : Pool) (a : Address) (place : Place) : (p.mark a place).free = p.free := rfl
@[simp] theorem mark_hold (p : Pool) (a : Address) (place : Place) : (p.mark a place).hold = p.hold := rfl
@[simp] theorem detach_map (p : Pool) (a : Address) : (p.detach a).map = p.map := rfl
@[simp] theorem detach_free (p : Pool) (a : Address) : (p.detach a).free = p.free.filter (· != a) := rfl
@[simp] theorem detach_hold (p : Pool) (a : Address) : (p.detach a).hold = p.hold.filter (·.address != a) := rfl

/-- An address taken from where it stands leaves the lists and takes its new place. -/
theorem take_eq (p : Pool) {a : Address} (place : Place) (h : assignable a = true) :
    p.take a place =
      { map := p.map.set a.toFin place
        free := p.free.filter (· != a)
        hold := p.hold.filter (·.address != a) } := by
  simp [Pool.take, h, Pool.mark, Pool.detach]

/-- An address that enters the free list at the head stands there alone, FREE. -/
theorem toHead_eq (p : Pool) {a : Address} (h : assignable a = true) :
    p.toHead a =
      { map := p.map.set a.toFin .free
        free := a :: p.free.filter (· != a)
        hold := p.hold.filter (·.address != a) } := by
  simp [Pool.toHead, h, Pool.mark, Pool.detach]

/-- An address that enters the free list at the tail stands there alone, FREE. -/
theorem toTail_eq (p : Pool) {a : Address} (h : assignable a = true) :
    p.toTail a =
      { map := p.map.set a.toFin .free
        free := p.free.filter (· != a) ++ [a]
        hold := p.hold.filter (·.address != a) } := by
  simp [Pool.toTail, h, Pool.mark, Pool.detach]

/-! ### Transmit queues -/

/-- A reply that must find room: the operation stands with its message queued, or it has no effect but OVERFLOW. -/
theorem replyOr_cases (done orig : State) (n : SegNo) (dest : Address) (m : Message) :
    (done.segs[n].room = true ∧ done.replyOr orig n dest m = done.withSeg n (done.segs[n].enqueue dest m))
      ∨ (done.segs[n].room = false ∧ done.replyOr orig n dest m = orig.withSeg n orig.segs[n].refusePlacement) := by
  unfold State.replyOr
  split
  · next h => exact .inl ⟨h, rfl⟩
  · next h => exact .inr ⟨by simpa using h, rfl⟩

/-- One Segment Controller is replaced, and the others stand. -/
theorem withSeg_getElem (s : State) (n m : SegNo) (c : SegCtl) :
    (s.withSeg n c).segs[m] = if n = m then c else s.segs[m] := by
  simp [Vector.getElem_set, Fin.ext_iff]

/-- Each controller gives up its own unstarted OFFERs of a nonce. -/
theorem removeOffers_getElem (s : State) (nonce : BitVec 16) (n : SegNo) :
    (s.removeOffers nonce).segs[n] = s.segs[n].dropOffers nonce := by
  simp

/-! ### Claim slots -/

/-- One claim slot is replaced, and the others stand. -/
theorem withSlot_getElem (s : State) (k j : SlotNo) (c : Option Claim) :
    (s.withSlot k c).slots[j] = if k = j then c else s.slots[j] := by
  simp [Vector.getElem_set, Fin.ext_iff]

/-- A claim found by its property is busy and has it. -/
theorem findClaim_eq_some {s : State} {p : Claim → Bool} {k : SlotNo} {c : Claim} (h : s.findClaim p = some (k, c)) :
    s.slots[k] = some c ∧ p c = true := by
  obtain ⟨k', _, hk⟩ := List.exists_of_findSome?_eq_some h
  cases hs : s.slots[k'] with
  | none => simp [hs] at hk
  | some c' =>
    simp only [hs, Option.map_eq_some_iff, Option.filter_eq_some_iff, Option.some.injEq] at hk
    obtain ⟨c'', ⟨rfl, hp⟩, hkc⟩ := hk
    cases hkc
    exact ⟨hs, hp⟩

/-- A withdrawn claim: its unstarted OFFERs removed, its slot FREE, its address at the head of the free list and its
record EMPTY. -/
theorem withdraw_eq {s : State} {k : SlotNo} {c : Claim} (h : s.slots[k] = some c) :
    s.withdraw k =
      ((((s.removeOffers c.nonce).freeSlot k).withPool (s.pool.toHead c.address))).emptyRecord c.record := by
  simp only [State.withdraw, h]
  rfl

/-! ### Due expiries -/

@[simp] theorem mem_slotsWhere {p : SlotNo → Bool} {k : SlotNo} : k ∈ slotsWhere p ↔ p k = true := by
  simp [slotsWhere]

/-- Slots picked by a property stand in ascending order. -/
theorem slotsWhere_ascending (p : SlotNo → Bool) : (slotsWhere p).Pairwise (· < ·) :=
  (List.pairwise_lt_finRange 8).filter p

/-- What is due when slot k has run out too: k and what was due before. -/
theorem mem_dueWith {s : State} {j k : SlotNo} : j ∈ s.dueWith k ↔ j = k ∨ j ∈ s.due := by
  simp only [State.dueWith, List.mem_append, List.mem_filter, mem_slotsWhere, bne, Bool.and_eq_true, Bool.or_eq_true,
    Bool.not_eq_true', beq_iff_eq, beq_eq_false_iff_ne, List.contains_iff_mem, ne_eq]
  grind

end Sys2Proof.Machine
end

