-- ==== Sys2Proof/Tests/Slice0.lean ====
section
/-! SUPPORT. Tests of the model: the refusals of WellFormed, the manual's worked examples, one or two small checks for each
command, and for each statement with hypotheses a state and operands that meet them. -/

namespace Sys2Proof.Machine

set_option Elab.async false

/-! ### The states of the tests -/

/-- The state that a command answers. -/
def after (o : Host.Outcome State Fault Refusal) (default : State) : State :=
  match o with
  | .next t => t
  | _ => default

/-- The state after one command. -/
def ran (c : Instr) (s : State) : State := after (exec c s) s

/-- Module A of the manual's examples. -/
def moduleA : ModuleId := 0x0012A3F000007C01

/-- Module C of the manual's examples. -/
def moduleC : ModuleId := 0x0100200003004000

/-- A Segment Controller in LISTENING, its line idle. -/
def upSeg : SegCtl := { SegCtl.reset with state := .listening, receiver := .ready, monitor := .quiet }

/-- After reset, with the four segments enabled and the mode RUNNING. -/
def plain : State :=
  { State.reset with
    engine := { Engine.reset with mode := .running }
    segs := Vector.replicate 4 upSeg }

/-- Module A bound on S1, in record 240. -/
def recA : Record :=
  ⟨.dynamic, .active, some moduleA, some 0x10, some 1, some 5, 0x0012, some 30, 30, 0, 0, 3, some 1, none⟩

/-- A static binding whose module has not been seen, in record 241. -/
def recS : Record :=
  ⟨.static, .dormant, some 0x004000000000007C, some 0x20, none, some 6, 0x0002, some 40, 0, 0, 0, 1, none, none⟩

/-- A bar, in record 242. -/
def recD : Record :=
  ⟨.denied, .dormant, some 0x000100000000003D, none, none, none, 0, none, 0, 0, 0, 1, none, none⟩

/-- A claim under way, in record 243. -/
def recP : Record :=
  ⟨.dynamic, .pending, some 0xBC, some 0x30, some 1, some 7, 0, some 60, 0, 0, 0, 1, none, some 0⟩

/-- A tombstone, in record 4. -/
def recT : Record :=
  ⟨.dynamic, .retired, some 1, some 0x50, some 2, some 7, 0, some 60, 0, 0, 0x10, 4, none, none⟩

/-- The claim of record 243. -/
def claimP : Claim := ⟨.offered, 243, 0xBC, 1, 0x30, 7, 0, 0, 250, 0x01, 0xEF, 0x0004, 0x00⟩

/-- A running part with one record of each sort, the hold list holding 44h and 61h. -/
def bench : State :=
  { plain with
    engine := { plain.engine with attnCount := 1 }
    records := ((((plain.records.set 240 recA).set 241 recS).set 242 recD).set 243 recP).set 4 recT
    pool :=
      { map := (((((plain.pool.map.set 0x10 (.bound 240)).set 0x20 (.bound 241)).set 0x30 (.offered 243)).set 0x44
          .held).set 0x61 .held).set 0x70 .reserved
        free := assignableAddresses.filter fun a => !([0x10, 0x20, 0x30, 0x44, 0x61, 0x70] : List Address).contains a
        hold := [⟨0x44, some moduleC, 5⟩, ⟨0x61, none, 12⟩] }
    groups := (plain.groups.set 1 ⟨true, 0xF, 2⟩).set 4 ⟨false, 0xF, 1⟩
    slots := plain.slots.set 0 (some claimP) }

/-- The host has submitted one request, TAG 07h, and HOST is searched first. -/
def State.asked (s : State) (code : Byte) (payload : List Byte) : State :=
  { s with
    engine := { s.engine with pointer := .timer }
    port := { s.port with requests := [⟨0x07, code, payload, false⟩], credits := 3 } }

/-- One frame stands in the receive queue of segment n. -/
def State.heard (s : State) (n : SegNo) (source : Address) (m : FieldMessage) : State :=
  { s with
    engine := { s.engine with pointer := .host }
    segs := s.segs.set n { s.segs[n] with rx := [⟨0xF0, source, m⟩] } }

/-- The request and the answer of a command, by status and payload. -/
def State.lastAnswer (s : State) : Option (Status × List Byte) :=
  s.port.responses.getLast?.map fun r => (r.status, r.payload)

/-- The messages that wait on a segment, with their destinations. -/
def State.queued (s : State) (n : SegNo) : List (Address × Message) := s.segs[n].tx.map fun e => (e.dest, e.message)

/-! ### The checks of WellFormed refuse -/

theorem test_wellFormed_refuses_known_code : (Instr.unknownTransaction [0x51, 0x00]).wellFormed = false := by decide
theorem test_wellFormed_refuses_end_gap :
    (Instr.frameComplete 0 [.active, .idle, .idle, .idle, .active]).wellFormed = false := by decide
theorem test_wellFormed_accepts :
    (Instr.unknownTransaction [0x57]).wellFormed = true ∧ (Instr.frameComplete 0 [.idle, .idle, .active]).wellFormed = true := by
  decide

/-! ### The manual's worked examples -/

/-- Chapter 1, the bucket hash: four IDs of bucket 60. -/
theorem test_bucket_hash :
    bucketOf moduleA = 60 ∧ bucketOf 0x004000000000007C = 60 ∧ bucketOf 0x000100000000003D = 60 ∧ bucketOf 0xBC = 60 := by
  decide +kernel

/-- The pool of chapter 2, Example: choosing an address. -/
def examplePool : Pool :=
  { map := (((((((State.reset.pool.map.set 0x44 .held).set 0x61 .held).set 0x60 .reserved)).set 0x62 .reserved)).set 0x70
      .reserved).set 0x71 .reserved
    free := [0x03, 0x9A, 0x10, 0x52, 0x57, 0x0E]
    hold := [⟨0x44, some 0xA, 5⟩, ⟨0x61, none, 12⟩] }

/-- Chapter 2, Example: choosing an address, row by row. -/
theorem test_allocation_example :
    examplePool.allocateFirst 0x40 0x7F 0xB 0x00 = some 0x52 ∧ examplePool.allocateFirst 0x40 0x7F 0xB 0x9A = some 0x52
      ∧ examplePool.allocateFirst 0x40 0x7F 0xB 0x57 = some 0x57
      ∧ examplePool.allocateFirst 0x80 0x9F 0xA 0x44 = some 0x44
      ∧ examplePool.allocateFirst 0x80 0x9F 0xB 0x44 = some 0x9A
      ∧ examplePool.allocateFirst 0x60 0x6F 0xB 0x00 = some 0x61
      ∧ examplePool.allocateFirst 0x60 0x6F 0xB 0x61 = some 0x61
      ∧ examplePool.allocateFirst 0x70 0x7F 0xB 0x00 = none := by
  decide +kernel

/-- Chapter 2, Example: hold list countdown, the first and the third sweep step. -/
theorem test_hold_list_example :
    (Pool.countDown { State.reset.pool with
        free := [0xEF], hold := [⟨0x21, some 0xA, 1⟩, ⟨0x34, none, 3⟩, ⟨0x0A, some 0xB, 2⟩] }).hold
        = [⟨0x34, none, 2⟩, ⟨0x0A, some 0xB, 1⟩]
      ∧ (Pool.countDown { State.reset.pool with
          free := [0xEF, 0x21], hold := [⟨0x34, none, 1⟩, ⟨0x4E, some 0xC, 3⟩] }).free = [0xEF, 0x21, 0x34] := by
  decide +kernel

/-- Chapter 3, Example: a run of grants, the first three searches. -/
theorem test_arbiter_example :
    let seg1 := { upSeg with rx := [⟨0xF0, 1, .heartbeat 1⟩, ⟨0xF0, 2, .heartbeat 2⟩], state := .hushed }
    let s : State := { plain with
      engine := { plain.engine with pointer := .seg 0, sweeping := true }
      port := { Port.reset with requests := [⟨1, 0x33, [], false⟩] }
      segs := plain.segs.set 1 seg1 }
    s.granted = some (.frame 1 ⟨0xF0, 1, .heartbeat 1⟩)
      ∧ (s.pointTo (.seg 1)).granted = some (.sweepStep .holdList)
      ∧ (s.pointTo .timer).granted = some (.request ⟨1, 0x33, [], false⟩) := by
  decide +kernel

/-- The rules of chapter 4, Example: evaluating announces. -/
def exampleRules : State :=
  { plain with
    config := { Params.reset with defaultPolicy := .deny }
    rules := ((plain.rules.set 0 ⟨true, .deny, 48, 0x0012A3F000000000, 0b0100, none, 0, 1, 0xEF, 60⟩).set 1
      ⟨true, .permit, 16, 0x0012000000000000, 0b1111, none, 0x0012, 0x10, 0x3F, 30⟩).set 3
      ⟨true, .permit, 8, 0x0100000000000000, 0b0011, some 20, 0x0004, 0x80, 0x9F, 120⟩ }

/-- What evaluation answers: a refusal, or the range, class, groups, lease and rule. -/
def evaluated (n : SegNo) (id : ModuleId) : Option Refuse × Option Terms :=
  match exampleRules.evaluate n id 9 with
  | .error why => (some why, none)
  | .ok d => (none, some d)

/-- Chapter 4, Example: evaluating announces. -/
theorem test_evaluation_example :
    evaluated 2 moduleA = (some .denied, none)
      ∧ evaluated 1 moduleA = (none, some ⟨0x10, 0x3F, 9, 0x0012, 30, some 1⟩)
      ∧ evaluated 2 0x0012A3F000010000 = (none, some ⟨0x10, 0x3F, 9, 0x0012, 30, some 1⟩)
      ∧ evaluated 0 moduleC = (none, some ⟨0x80, 0x9F, 20, 0x0004, 120, some 3⟩)
      ∧ evaluated 3 moduleC = (some .notAdmitted, none) ∧ evaluated 0 0x003300001C000105 = (some .notAdmitted, none) := by
  decide +kernel

/-- Chapter 4: a prefix value of 0120h with prefix length 8 is field 5. -/
theorem test_write_rule_example :
    (ran .writeRule (exampleRules.asked 0x40
      ([3, 1, 0, 8] ++ idBytes 0x0120000000000000 ++ [0x0F, 0, 0] ++ bytes16 0 ++ [0x80, 0x9F, 120]))).lastAnswer
      = some (.badParameter, [5]) := by
  decide +kernel

/-- The start of chapter 5, Example: a claim that moves before it commits. -/
def claimStart : State :=
  { exampleRules with
    engine := { exampleRules.engine with nonce := 7 }
    pool := { exampleRules.pool with
      free := exampleRules.pool.free.filter (fun a => 0x10 ≤ a) ++ exampleRules.pool.free.filter (fun a => a < 0x10) } }

/-- Chapter 5, the example's first event. -/
def claimSending : State := ran (.announce 1) (claimStart.heard 1 0x00 (.announce moduleA 9 0x00))

theorem test_announce_example :
    claimSending.records[240].state = .pending ∧ claimSending.records[240].address = some 0x10
      ∧ claimSending.records[240].generation = 1
      ∧ claimSending.queued 1 = [(0x00, .offer moduleA 7 0x10)] ∧ claimSending.engine.nonce = 8 := by
  decide +kernel

/-- The OFFER has been sent, and its notice waits. -/
def claimSent : State :=
  let t := ran (.transmitComplete 1) (ran (.attemptStart 1) claimSending)
  { t with engine := { t.engine with pointer := .host } }

/-- Chapter 5, the example's second event: 250 ms of window. -/
theorem test_transmit_notice_example :
    (ran (.transmitNotice 1) claimSent).slots[0].map (fun c => (c.phase, c.window)) = some (.offered, 250) := by
  decide +kernel

/-- Chapter 5, the example's third event, on S3. -/
def claimMoved : State := ran (.announce 3) ((ran (.transmitNotice 1) claimSent).heard 3 0x00 (.announce moduleA 9 0x00))

theorem test_repeat_announce_example :
    claimMoved.records[240].generation = 2 ∧ claimMoved.records[240].segment = some 3
      ∧ claimMoved.queued 3 = [(0x00, .offer moduleA 7 0x10)]
      ∧ claimMoved.slots[0].map (fun c => (c.phase, c.repeats)) = some (.sending, 1) := by
  decide +kernel

/-- Chapter 5, the example's last event; the OFFER on S3 had not started, so the commit removes it (R162). -/
theorem test_accept_example :
    let t := ran (.accept 3) (claimMoved.heard 3 0x00 (.accept moduleA 7 0x10))
    t.records[240].state = .active ∧ t.records[240].ticks = 30 ∧ t.records[240].groups = 0x0012
      ∧ t.records[240].attention = 0x01 ∧ t.records[240].generation = 3 ∧ t.groups[1].members = 1
      ∧ t.pool.map[0x10] = .bound 240 ∧ t.slots[0] = none
      ∧ t.queued 3 = [(0x00, .confirm moduleA 0x10)] := by
  decide +kernel

/-- Chapter 5, the example's other ending, where the OFFER on S3 has started. -/
theorem test_decline_example :
    let t := ran (.decline 3) ((ran (.attemptStart 3) claimMoved).heard 3 0x00 (.decline moduleA 7))
    t.records[240].address = some 0x11 ∧ t.records[240].generation = 3 ∧ t.pool.hold = [⟨0x10, none, 30⟩]
      ∧ t.slots[0].map (fun c => (c.nonce, c.declines, c.address)) = some (8, 1, 0x11)
      ∧ (t.queued 3).getLast? = some (0x00, .offer moduleA 8 0x11) := by
  decide +kernel

/-- Chapter 1, Example: placement in a crowded bucket. -/
theorem test_placement_example :
    let s : State := { bench with
      records := (bench.records.set 241 { recT with id := some 0x004000000000007C }).set 243 { recT with id := some moduleA } }
    s.placementWay 0x004000000000007C = some 241 ∧ s.placementWay 0x00C00000000000FC = some 241
      ∧ (s.placeRecord 241 recP).port.flags = 0x04 ∧ bench.placementWay 0x00C00000000000FC = none := by
  decide +kernel

/-- Chapter 8, Example: filling and draining the receive queue. -/
theorem test_receive_queue_example :
    let hb : RxFrame := ⟨0xF0, 0x22, .heartbeat moduleA⟩
    let rs : RxFrame := ⟨0xF0, 0x31, .resolve 5 (.byId moduleA)⟩
    let c0 := { upSeg with receiver := .receiving }
    let c1 := c0.frameComplete (lineCode hb.frame)
    let c2 := (c1.frameStart).frameComplete (lineCode rs.frame)
    let c3 := (c2.frameStart).frameComplete (lineCode (frameBytes 0x22 0x31 0x04 (idBytes 5)))
    let c4 := (c3.frameStart).frameComplete (lineCode (RxFrame.frame ⟨0xF0, 0x00, .announce 5 1 0⟩))
    c1.rx = [hb] ∧ c1.state = .listening ∧ c2.rx = [hb, rs] ∧ c2.state = .hushed ∧ c3 = c2
      ∧ c4.rx = [hb, rs] ∧ c4.overflow = true ∧ c4.takeFrame.rx = [rs] ∧ c4.takeFrame.state = .listening := by
  decide +kernel

/-- Chapter 10: the FLUSH_DYNAMIC request with TAG 00h is 00h, 31h, 00h and CHECK ECh. -/
theorem test_crc8_example : requestFrame 0x00 0x31 [] = [0x00, 0x31, 0x00, 0xEC] := by decide +kernel

/-- Chapter 9, Example: credits through a flush, the first and the last four submits. -/
theorem test_credits_example :
    let sub := fun tag code p s => ran (.submit (requestFrame tag code p)) s
    let s4 := sub 4 0x61 [0] (sub 3 0x10 [0] (sub 2 0x31 [] (sub 1 0x33 [] plain)))
    let s5 := sub 5 0x43 [0] s4
    let s6 := ran .readConfig { s5 with engine := { s5.engine with pointer := .timer } }
    let s7 := ran .flushDynamic { s6 with engine := { s6.engine with pointer := .timer } }
    let s8 := ran (.fetchNext 40) s7
    s4.port.credits = 0 ∧ s4.port.flags = 0 ∧ s5.port.flags = 0x01 ∧ s5.port.requests.length = 4
      ∧ s7.port.requests.map (fun r => (r.tag, r.taken)) = [(2, true), (3, false), (4, false)]
      ∧ s7.port.responses.length = 1 ∧ s8.port.credits = 1 ∧ s8.port.repeatBuf.map (·.tag) = some 1
      ∧ (ran (.acknowledge [0x01]) s8).port.flags = 0 := by
  decide +kernel

/-! ### One or two checks for each command -/

theorem test_resets :
    (ran .resetPin bench).phase = .pinReset ∧ (ran .powerUp bench).records[240].state = .empty
      ∧ (ran (.reset []) bench).engine.mode = .halted ∧ (ran .resetRecoveryDone (ran .powerUp bench)).phase = .operating := by
  decide +kernel

theorem test_submit_bad_check : (ran (.submit [0x00, 0x31, 0x00, 0xED]) plain).port.flags = 0x02 := by decide +kernel
theorem test_submit_example :
    (ran (.submit [0x00, 0x31, 0x00, 0xEC]) plain).port.requests = [⟨0x00, 0x31, [], false⟩] := by decide +kernel

/-- A part that holds one response. -/
def answeredOnce : State := ran .readRecord (bench.asked 0x10 [240])

theorem test_fetch_next_short : (ran (.fetchNext 5) answeredOnce).port.responses.length = 1 := by decide +kernel
theorem test_fetch_next_whole :
    (ran (.fetchNext 29) answeredOnce).port.responses = [] ∧ (ran (.fetchNext 29) answeredOnce).port.credits = 4 := by
  decide +kernel
theorem test_fetch_again_empty :
    ((ran (.fetchAgain 6) answeredOnce).sdo.drop 1).take 4 = [0x00, 0x00, 0xFF, 0x00] := by decide +kernel
theorem test_status : (ran (.status 4) answeredOnce).sdo.drop 1 = [0x01, 0x00, 0x01, 0x03] := by decide +kernel
theorem test_notify : (ran (.notify [0x06, 0xFF]) plain).port.enables = 0b110 := by decide +kernel
/-- The code of each transaction, and the codes that an undriven SDI presents. -/
theorem test_transaction_codes :
    decodeTransaction [0x51, 0x00] = .submit [0x00] ∧ decodeTransaction [0x52, 0x00, 0x00] = .fetchNext 2
      ∧ decodeTransaction [0x53] = .fetchAgain 0 ∧ decodeTransaction [0x54, 0x00] = .status 1
      ∧ decodeTransaction [0x55, 0x07] = .notify [0x07] ∧ decodeTransaction [0x56, 0xFF] = .acknowledge [0xFF]
      ∧ decodeTransaction [0x5F] = .reset [] ∧ decodeTransaction [0x00] = .unknownTransaction [0x00]
      ∧ decodeTransaction [0xFF, 0x01] = .unknownTransaction [0xFF, 0x01] := by
  decide
theorem test_unknown_transaction :
    (ran (.unknownTransaction [0x57, 0x00]) plain).sdo = [0x80, 0xFF] ∧ (ran (.unknownTransaction []) plain).sdo = [] := by
  decide +kernel

theorem test_bad_command : (ran .badCommand (bench.asked 0x18 [1])).lastAnswer = some (.badCommand, []) := by decide +kernel

/-- The image of module A's record by the layout of chapter 10. -/
theorem test_read_record :
    (ran .readRecord (bench.asked 0x10 [240])).lastAnswer = some (.ok,
      [240, 0x13, 0x00, 0x12, 0xA3, 0xF0, 0x00, 0x00, 0x7C, 0x01, 0x10, 5, 30, 30, 0, 0x00, 0x12, 0x00, 0x00, 0x03, 1, 1,
       0, 0x0F]) := by
  decide +kernel
theorem test_find_id :
    (ran .findId (bench.asked 0x11 (idBytes 1))).lastAnswer = some (.notFound, [])
      ∧ (ran .findId (bench.asked 0x11 (idBytes 0xBC))).lastAnswer.map (·.2.head?) = some (some 243) := by
  decide +kernel
theorem test_find_address :
    (ran .findAddress (bench.asked 0x12 [0x50])).lastAnswer = some (.notFound, [0x00])
      ∧ (ran .findAddress (bench.asked 0x12 [0xF0])).lastAnswer = some (.notFound, [0x05]) := by
  decide +kernel
theorem test_bind_static_converts :
    let t := ran .bindStatic (bench.asked 0x13 (idBytes 0xBC ++ [0x31, 9] ++ bytes16 0x8000 ++ [5]))
    t.records[243].kind = .static ∧ t.records[243].generation = 2 ∧ t.pool.free.head? = some 0x30
      ∧ t.pool.map[0x31] = .bound 243 ∧ t.slots[0] = none ∧ t.groups[15].members = 1 := by
  decide +kernel
theorem test_bind_static_bucket_full :
    (ran .bindStatic (bench.asked 0x13 (idBytes 0x00C00000000000FC ++ [0x31, 9] ++ bytes16 0 ++ [5]))).lastAnswer
      = some (.bucketFull, []) := by
  decide +kernel
theorem test_add_deny_reclaims_tombstone :
    let t := ran .addDeny ({ bench with records := bench.records.set 240 { recT with id := some moduleA } }.asked 0x14
      (idBytes 0x00C00000000000FC))
    t.records[240].kind = .denied ∧ t.port.flags = 0x04 := by
  decide +kernel
theorem test_edit_record_unpin_dormant :
    (ran .editRecord (bench.asked 0x15 [241, 0, 0, 0x20, 0, 0, 0, 0])).lastAnswer = some (.wrongState, []) := by
  decide +kernel
theorem test_edit_record_pins :
    let t := ran .editRecord (bench.asked 0x15 [240, 0, 3, 0x16, 0, 0x80, 0x02, 99])
    t.records[240].kind = .static ∧ t.records[240].generation = 4 ∧ t.records[240].lease = some 99
      ∧ t.groups[15].members = 1 ∧ t.groups[1].members = 2 ∧ t.groups[4].members = 0 := by
  decide +kernel
theorem test_retire_record_holds :
    let t := ran .retireRecord (bench.asked 0x16 [240, 0, 0, 0x00])
    t.pool.hold.getLast? = some ⟨0x10, some moduleA, 30⟩ ∧ t.queued 1 = [(0x10, .revoke moduleA 0x10)]
      ∧ t.records[240].state = .empty ∧ t.groups[4].members = 0 := by
  decide +kernel
theorem test_collect_attention_wraps :
    let t := ran .collectAttention (bench.asked 0x17 [5])
    t.records[4].state = .empty ∧ t.engine.attnCount = 0 ∧ t.lastAnswer.map (·.2.head?) = some (some 4) := by
  decide +kernel
theorem test_reserve_address :
    (ran .reserveAddress (bench.asked 0x20 [0x44])).pool.hold = [⟨0x61, none, 12⟩]
      ∧ (ran .reserveAddress (bench.asked 0x20 [0x30])).lastAnswer = some (.addressInUse, [243]) := by
  decide +kernel
theorem test_free_reservation :
    (ran .freeReservation (bench.asked 0x21 [0x70])).pool.free.getLast? = some 0x70
      ∧ (ran .freeReservation (bench.asked 0x21 [0x44])).lastAnswer = some (.wrongState, [0x01]) := by
  decide +kernel
theorem test_read_address :
    (ran .readAddress (bench.asked 0x22 [0x61])).lastAnswer = some (.ok, [0x01, 1, 0, 0, 0, 0, 0, 0, 0, 0, 0, 12]) := by
  decide +kernel
theorem test_read_list :
    (ran .readList (bench.asked 0x23 [0x01, 0])).lastAnswer
        = some (.ok, [2, 0x44, 1, 0x01, 0x00, 0x20, 0x00, 0x03, 0x00, 0x40, 0x00, 5])
      ∧ (ran .readList (bench.asked 0x23 [0x01, 2])).lastAnswer = some (.notFound, [2]) := by
  decide +kernel
theorem test_set_mode_run : (ran .setModeRun (State.reset.asked 0x30 [1])).engine.mode = .running := by decide +kernel
theorem test_set_mode_halt :
    let t := ran .setModeHalt (bench.asked 0x30 [2])
    t.lastAnswer = some (.ok, [0x00, 1]) ∧ t.records[243].state = .empty ∧ t.pool.free.head? = some 0x30 := by
  decide +kernel
theorem test_flush_dynamic_halted :
    (ran .flushDynamic (State.reset.asked 0x31 [])).lastAnswer = some (.wrongMode, []) := by decide +kernel
/-- The last two grants of a flush that finds record 255 live. -/
theorem test_flush_step :
    let s : State := { bench with
      records := bench.records.set 255 recA
      engine := { bench.engine with mode := .flushing, flushing := true, flushNext := 255, emptied := 3, pointer := .seg 3 }
      port := { Port.reset with requests := [⟨2, 0x31, [], true⟩], credits := 3 } }
    let t := ran .flushStep s
    t.records[255].state = .empty ∧ t.pool.free.getLast? = some 0x10 ∧ t.engine.mode = .running
      ∧ t.lastAnswer = some (.ok, [0, 4]) ∧ t.queued 2 = [(0xFF, .reannounce)] := by
  decide +kernel
theorem test_configure :
    let payload := bytes16 1000 ++ [10, 60, 10, 0, 25, 50, 0, 0x02, 0x03] ++ bytes16 0x0001
    (ran .configure (State.reset.asked 0x32 payload)).config = ⟨1000, 10, 60, 10, 0, 25, 50, .deny, 0x02, 0x03, 0x0001⟩
      ∧ (ran .configure (State.reset.asked 0x32 (bytes16 999 ++ payload.drop 2))).lastAnswer = some (.badParameter, [1]) := by
  decide +kernel
theorem test_read_config :
    (ran .readConfig (plain.asked 0x33 [])).lastAnswer = some (.ok,
      [0x61, 0xA8, 10, 60, 10, 30, 25, 50, 0x01, 0x01, 0xEF, 0, 0, 0x01, 0x00, 0x01, 0, 0, 0, 0, 0, 0]) := by
  decide +kernel
theorem test_write_rule_clears :
    (ran .writeRule (exampleRules.asked 0x40 ([3, 0, 7, 99] ++ idBytes 5 ++ [0, 1, 2] ++ bytes16 5 ++ [0, 0, 0]))).rules[3]
      = Rule.cleared := by
  decide +kernel
theorem test_read_rule :
    (ran .readRule (exampleRules.asked 0x41 [1])).lastAnswer = some (.ok,
      [1, 1, 0, 16, 0x00, 0x12, 0, 0, 0, 0, 0, 0, 0x0F, 0, 0, 0x00, 0x12, 0x10, 0x3F, 30]) := by
  decide +kernel
theorem test_write_group :
    (ran .writeGroup (bench.asked 0x42 [1, 0, 0xF5])).lastAnswer = some (.ok, [1, 0, 0x05, 0, 2]) := by decide +kernel
theorem test_read_group :
    (ran .readGroup (bench.asked 0x43 [16])).lastAnswer = some (.badParameter, [1])
      ∧ (ran .readGroup (bench.asked 0x43 [1])).lastAnswer = some (.ok, [1, 1, 0x0F, 0, 2]) := by
  decide +kernel
theorem test_read_claim :
    (ran .readClaim (bench.asked 0x50 [0])).lastAnswer = some (.ok,
      [0, 0x02, 243, 0, 0, 0, 0, 0, 0, 0, 0xBC, 1, 0x00, 0x30, 0, 7, 0, 0, 0, 250, 0x01, 0xEF, 0x00, 0x04]) := by
  decide +kernel
theorem test_segment_control_disables :
    let t := ran .segmentControl (bench.asked 0x60 [1, 0, 1, 0, 0x0F, 1, 0])
    t.segs[1].state = .disabled ∧ t.slots[0] = none ∧ t.records[243].state = .empty ∧ t.records[240].segment = some 1 := by
  decide +kernel
theorem test_segment_control_wrong_state :
    (ran .segmentControl (bench.asked 0x60 [1, 1, 1, 0, 0x0F, 3, 0])).lastAnswer = some (.wrongState, []) := by
  decide +kernel
theorem test_read_segment :
    (ran .readSegment (bench.asked 0x61 [1])).lastAnswer = some (.ok, [1, 1, 2, 0, 0, 0, 0, 0, 0, 1, 1, 1, 0, 0x0F]) := by
  decide +kernel

theorem test_announce_denied :
    let t := ran (.announce 2) (bench.heard 2 0 (.announce 0x000100000000003D 1 0))
    t.queued 2 = [(0x00, .refuse 0x000100000000003D .denied 0)] ∧ t.records[242].attention = 0x80 := by
  decide +kernel
theorem test_accept_static :
    let t := ran (.accept 2) (bench.heard 2 0 (.accept 0x004000000000007C 5 0x20))
    t.records[241].state = .active ∧ t.records[241].segment = some 2 ∧ t.records[241].ticks = 40
      ∧ t.queued 2 = [(0x00, .confirm 0x004000000000007C 0x20)] := by
  decide +kernel
theorem test_decline_unmatched :
    (ran (.decline 1) (bench.heard 1 0 (.decline 0xBC 8))).records[243] = recP := by decide +kernel
theorem test_heartbeat_conflict :
    let t := ran (.heartbeat 1) (bench.heard 1 0x10 (.heartbeat 5))
    t.records[240].conflicts = 1 ∧ t.records[240].attention = 0x40 ∧ t.queued 1 = [(0x10, .revoke 5 0x10)] := by
  decide +kernel
theorem test_release :
    let t := ran (.release 1) (bench.heard 1 0x10 (.release moduleA))
    t.records[240].state = .retired ∧ t.records[240].attention = 0x20 ∧ t.groups[1].members = 1
      ∧ t.pool.hold.getLast? = some ⟨0x10, some moduleA, 30⟩ := by
  decide +kernel
theorem test_resolve_id :
    (ran (.resolveId 1) (bench.heard 1 0x10 (.resolve moduleA (.byId 0xBC)))).queued 1
      = [(0x10, .reply moduleA (.byId 0xBC) .unknown)] := by
  decide +kernel
theorem test_resolve_address :
    (ran (.resolveAddress 1) (bench.heard 1 0x10 (.resolve moduleA (.byAddress 0x10)))).queued 1
      = [(0x10, .reply moduleA (.byAddress 0x10) (.id moduleA))] := by
  decide +kernel
/-- Eighteen live members with descending addresses: sixteen are answered, ascending, TRUNCATED. -/
theorem test_resolve_group_truncates :
    let s : State := { bench with
      records := tabulate 256 fun i =>
        if 100 ≤ i.val ∧ i.val < 117 then { recA with address := some (BitVec.ofNat 8 (0xD0 - i.val)) }
        else bench.records[i] }
    (ran (.resolveGroup 1) (s.heard 1 0x10 (.resolve moduleA (.byGroup 1 0x05)))).queued 1
      = [(0x10, .reply moduleA (.byGroup 1 0x05) (.group
          (0x10 :: (List.range 15).map fun k => BitVec.ofNat 8 (0x5C + k)) true))] := by
  decide +kernel
theorem test_fault_notice :
    let s := (bench.enterFault 1)
    let t := ran (.faultNotice 1) { s with engine := { s.engine with pointer := .host } }
    t.slots[0] = none ∧ t.segs[1].faultNotice = false ∧ t.segs[1].state = .fault ∧ t.port.flags = 0x20 := by
  decide +kernel
theorem test_drop_notice :
    let s : State := { bench with
      engine := { bench.engine with pointer := .host }
      slots := bench.slots.set 0 (some { claimP with phase := .sending })
      segs := bench.segs.set 1 { upSeg with notices := [⟨false, 7⟩] } }
    (ran (.dropNotice 1) s).slots[0] = none ∧ (ran (.dropNotice 1) s).pool.free.head? = some 0x30 := by
  decide +kernel

theorem test_millisecond :
    let t := ran .millisecond { bench with aging := ⟨5, 998⟩, slots := bench.slots.set 0 (some { claimP with window := 1 }) }
    t.due = [0] ∧ t.aging = ⟨0, 999⟩ ∧ t.engine.sweeping = false := by
  decide +kernel
theorem test_millisecond_ticks :
    (ran .millisecond { bench with aging := ⟨5, 999⟩ }).engine.sweeping = true := by decide +kernel
/-- Slots 5 and 2 OFFERED, with windows running. -/
def benchTwoOffers : State :=
  { bench with slots := (bench.slots.set 5 (some claimP)).set 2 (some { claimP with window := 2 }) }

/-- Run out in one millisecond, slots 5 and then 2 stand in ascending order (R58). -/
theorem test_offer_windows_same_millisecond :
    (ran (.offerWindowRunOut 2) (ran (.offerWindowRunOut 5) benchTwoOffers)).due = [2, 5] := by
  decide +kernel
/-- Slot 5 ran out in an earlier millisecond, and stays ahead of slot 2 (R58). -/
theorem test_offer_windows_later_millisecond :
    (ran (.offerWindowRunOut 2) (ran .millisecond (ran (.offerWindowRunOut 5) benchTwoOffers))).due = [5, 2] := by
  decide +kernel
theorem test_claim_expiry :
    let s := ran (.offerWindowRunOut 0) bench
    let t := ran .claimExpiry { s with engine := { s.engine with pointer := .seg 3 } }
    t.slots[0] = none ∧ t.records[243].state = .empty ∧ t.due = [] := by
  decide +kernel
theorem test_aging_tick_lost :
    (ran .agingTick { bench with engine := { bench.engine with sweeping := true, owed := 2 } }).port.flags = 0x08 := by
  decide +kernel

/-- A sweep stands at a step, and TIMER is searched first. -/
def State.sweepingAt (s : State) (x : SweepStep) : State :=
  { s with engine := { s.engine with sweeping := true, sweepNext := x, pointer := .seg 3 } }

theorem test_hold_list_step :
    (ran .holdListStep (bench.sweepingAt .holdList)).pool.hold = [⟨0x44, some moduleC, 4⟩, ⟨0x61, none, 11⟩] := by
  decide +kernel
theorem test_hold_entry_expiry :
    let s : State := { bench with pool := { bench.pool with hold := [⟨0x44, some moduleC, 1⟩, ⟨0x61, none, 12⟩] } }
    (ran .holdEntryExpiry (s.sweepingAt .holdList)).pool.free.getLast? = some 0x44 := by
  decide +kernel
theorem test_sweep_visit :
    let t := ran .sweepVisit (bench.sweepingAt (.visit 240))
    t.records[240] = { recA with ticks := 29 } ∧ t.engine.sweepNext = .visit 241 := by
  decide +kernel
theorem test_lease_run_out :
    let s : State := { bench with records := bench.records.set 240 { recA with ticks := 1 } }
    let t := ran .leaseRunOut (s.sweepingAt (.visit 240))
    t.records[240].state = .stale ∧ t.records[240].ticks = 10 ∧ t.queued 1 = [(0x10, .probe moduleA 0x10)] := by
  decide +kernel
theorem test_stale_window_run_out :
    let s : State := { bench with records := bench.records.set 240 { recA with state := .stale, ticks := 1 } }
    let t := ran .staleWindowRunOut (s.sweepingAt (.visit 240))
    t.records[240].state = .retired ∧ t.records[240].attention = 0x10 ∧ t.queued 1 = [] := by
  decide +kernel

theorem test_frame_start : (ran (.frameStart 0) plain).segs[0].receiver = .receiving := by decide +kernel
theorem test_start_gap :
    (ran (.startGap 0) (plain.withSeg 0 { upSeg with receiver := .gap })).segs[0].receiver = .ready := by decide +kernel
theorem test_frame_over_length :
    (ran (.frameOverLength 0) (plain.withSeg 0 { upSeg with receiver := .receiving })).segs[0].rxError = true := by
  decide +kernel
/-- A frame of three bytes is a fragment; one of four with a wrong CRC sets RX_ERROR. -/
theorem test_frame_complete_checks :
    let s := plain.withSeg 0 { upSeg with receiver := .receiving }
    (ran (.frameComplete 0 (lineCode [0xF0, 0x01, 0x04])) s).segs[0].rxError = false
      ∧ (ran (.frameComplete 0 (lineCode [0xF0, 0x01, 0x04, 0x00])) s).segs[0].rxError = true := by
  decide +kernel
/-- A byte of zeros: with the start bit, six active bit times, a stuff bit, and three more active ones. -/
theorem test_line_code :
    lineCode [0x00]
        = [.active, .active, .active, .active, .active, .idle, .active, .active, .active]
      ∧ lineCode [0xF0]
        = [.idle, .idle, .active, .idle, .idle, .active, .active, .active, .active, .active] := by
  decide +kernel
theorem test_attempt_start :
    let t := ran (.attemptStart 0) (plain.place 0 0xFF .reannounce)
    t.segs[0].transmitter = .sending ∧ t.segs[0].receiver = .gap ∧ t.segs[0].lineOut.head? = some .active := by
  decide +kernel
/-- The back-off after the third failure on S2 is 3 × 32 + 8 × 2 bit times. -/
theorem test_collision :
    let s := plain.withSeg 2 { upSeg with receiver := .gap, transmitter := .sending, tx := [⟨0xFF, .reannounce, 3⟩] }
    (ran (.collision 2 true) s).segs[2].transmitter = .backoff 112 ∧ (ran (.collision 2 true) s).segs[2].monitor = .measuring := by
  decide +kernel
theorem test_collision_drops :
    let s := plain.withSeg 2 { upSeg with receiver := .gap, transmitter := .sending, tx := [⟨0, .offer 1 7 3, 4⟩] }
    (ran (.collision 2 false) s).segs[2].notices = [⟨false, 7⟩] ∧ (ran (.collision 2 false) s).segs[2].tx = [] := by
  decide +kernel
theorem test_backoff_expiry :
    (ran (.backoffExpiry 2) (plain.withSeg 2 { upSeg with transmitter := .backoff 112 })).segs[2].transmitter = .idle := by
  decide +kernel
theorem test_line_stuck :
    let t := ran (.lineStuck 3) (bench.withSeg 3 { upSeg with monitor := .measuring, rxError := true })
    t.segs[3].state = .fault ∧ t.segs[3].faultNotice = true ∧ t.segs[3].rxError = true ∧ t.port.flags = 0x80 := by
  decide +kernel
theorem test_data_line_active_in_gap :
    (ran (.dataLineActiveInGap 3) (plain.withSeg 3 { upSeg with receiver := .gap })).segs[3].monitor = .measuring := by
  decide +kernel

/-! ### What the arbiter grants in the states of the tests -/

/-- The arbiter grants the request of `State.asked`, where no sweep is in flight. -/
theorem asked_takes {s : State} {code : Byte} {payload : List Byte} (h : s.engine.sweeping = false) :
    (s.asked code payload).hostTakes 7 code payload := by
  simp [State.hostTakes, State.granted, State.asked, ringAfter, State.presents, State.hostWork, h]

/-- The arbiter grants the frame of `State.heard`, where no other frame or notice waits. -/
theorem heard_takes {s : State} {n : SegNo} {source : Address} {m : FieldMessage}
    (h : s.segs = Vector.replicate 4 upSeg) : (s.heard n source m).segTakes n source m := by
  refine ⟨0xF0, ?_⟩
  have hs : s.heard n source m = { s with
    engine := { s.engine with pointer := .host }
    segs := (Vector.replicate 4 upSeg).set n { upSeg with rx := [⟨0xF0, source, m⟩] } } := by
    simp [State.heard, h]
  rw [hs]
  fin_cases n <;> rfl

/-! ### A state that meets the agreements -/

/-- Agreement of map and records, checked entry by entry and record by record. -/
theorem addressesAgree_of {s : State}
    (h1 : ∀ a : Fin 256, (match s.pool.map[a] with
      | .offered i => decide (s.records[i].state = .pending ∧ s.records[i].address = some (BitVec.ofFin a))
      | .bound i => decide (s.records[i].bound = true ∧ s.records[i].address = some (BitVec.ofFin a))
      | _ => true) = true)
    (h2 : ∀ i : RecNo, (s.records[i].address.all fun a =>
      decide ((s.records[i].state = .pending → s.pool.map[a.toFin] = .offered i)
          ∧ (s.records[i].bound = true → s.pool.map[a.toFin] = .bound i))) = true) : AddressesAgree s := by
  intro a i
  have h1 := h1 a.toFin
  have h2 := h2 i
  refine ⟨⟨fun h => ?_, fun h => ?_⟩, ⟨fun h => ?_, fun h => ?_⟩⟩
  · rw [h] at h1; exact of_decide_eq_true h1
  · rw [h.2] at h2; exact (of_decide_eq_true h2).1 h.1
  · rw [h] at h1; exact of_decide_eq_true h1
  · rw [h.2] at h2; exact (of_decide_eq_true h2).2 h.1

/-- Claims and records of a state with one claim, checked record by record. -/
theorem claimsAgree_of {s : State}
    (h1 : ∀ k : SlotNo, (s.slots[k].all fun c =>
      decide (s.records[c.record].state = .pending ∧ s.records[c.record].slot = some k
          ∧ s.records[c.record].id = some c.id ∧ s.records[c.record].segment = some c.segment
          ∧ s.records[c.record].address = some c.address)) = true)
    (h2 : ∀ i : RecNo, s.records[i].state = .pending → ∃ k : SlotNo, (s.slots[k].any fun c => c.record == i) = true) :
    ClaimsAgree s := by
  refine ⟨fun k c hc => ?_, fun i hi => ?_⟩
  · have h1 := h1 k
    rw [hc] at h1
    exact of_decide_eq_true h1
  · obtain ⟨k, hk⟩ := h2 i hi
    cases hs : s.slots[k] with
    | none => simp [hs] at hk
    | some c => exact ⟨k, c, hs, by simpa [hs] using hk⟩

theorem test_bench_pool : PoolAgrees bench := by decide +kernel

theorem test_bench_tables : TablesAgree bench :=
  ⟨test_bench_pool, claimsAgree_of (by decide +kernel) (by decide +kernel), by decide +kernel,
    addressesAgree_of (by decide +kernel) (by decide +kernel)⟩

theorem test_bench_port : CreditsHold bench ∧ NonceLive bench ∧ LongOperationsAgree bench := by decide +kernel
theorem test_bench_counts : AttentionExact bench ∧ MembersExact bench := by decide +kernel
theorem test_bench_segments : SegmentsAgree bench := by decide +kernel
theorem test_bench_settings : SettingsInBounds bench := by decide +kernel
theorem test_bench_expiries : ExpiriesAgree bench := by decide +kernel
theorem test_bench_leases : LeasesRun bench := by decide +kernel

theorem test_bench_buckets : BucketsHold bench := by
  intro i hi id hid
  have h : ∀ i : RecNo, (bench.records[i].id.all fun id => i.val / 4 == (bucketOf id).val) = true := by decide +kernel
  have := h i
  rw [hid] at this
  simpa using this

theorem test_bench_ids : IdsDistinct bench := by
  have h : ∀ i : RecNo, bench.records[i].findable = true → i = 240 ∨ i = 241 ∨ i = 242 ∨ i = 243 := by decide +kernel
  have h4 : ∀ i ∈ ([240, 241, 242, 243] : List RecNo), ∀ j ∈ ([240, 241, 242, 243] : List RecNo),
      bench.records[i].id = bench.records[j].id → i = j := by decide +kernel
  intro i j hi hj hid
  exact h4 i (by simpa using h i hi) j (by simpa using h j hj) hid

/-! ### Witnesses: states and operands that meet the hypotheses of each statement -/

theorem test_witness_EmptyQueueCountsRefclk :
    bench.pending = [] ∧ bench.phase = .operating ∧ bench.aging.divider + 1 < bench.config.refKhz.toNat
      ∧ bench.config.refKhz.toNat ≤ ({ bench with aging := ⟨24999, 0⟩ } : State).aging.divider + 1
      ∧ (ran .powerUp bench).pending = [] ∧ (ran .powerUp bench).phase ≠ .operating := by
  decide +kernel

/-- The tick period of 10 × 100 ms, at its last millisecond and at the one before. -/
theorem test_witness_MillisecondCountsWindowsAndTicks :
    bench.phase = .operating ∧ 998 + 1 < bench.config.tickPeriod.toNat * 100
      ∧ bench.config.tickPeriod.toNat * 100 ≤ 999 + 1 := by
  decide +kernel

theorem test_witness_AgingTickActsByMode :
    State.reset.phase = .operating ∧ State.reset.engine.mode = .halted ∧ bench.phase = .operating
      ∧ bench.engine.mode = .running ∧ bench.engine.sweeping = false ∧ bench.port.requests.head? = none
      ∧ (bench.sweepingAt .holdList).engine.sweeping = true ∧ (bench.sweepingAt .holdList).engine.owed < 2
      ∧ (∃ r ∈ (bench.asked 0x31 []).port.requests.head?, r.taken = false ∧ r.command = 0x31) :=
  ⟨by decide +kernel, by decide +kernel, by decide +kernel, by decide +kernel, by decide +kernel, by decide +kernel,
    by decide +kernel, by decide +kernel, ⟨_, rfl, rfl, rfl⟩⟩

theorem test_witness_ResetReturnsEveryBlock : bench.phase = .operating := by decide +kernel

theorem test_witness_SubmitJudgesFrame :
    let good := fun input : List Byte => 4 ≤ input.length ∧ (input.getD 2 0).toNat ≤ 24
      ∧ input.length = (input.getD 2 0).toNat + 4 ∧ input.getLast? = some (crc8 input.dropLast)
    bench.phase = .operating ∧ bench.port.credits ≠ 0 ∧ good (requestFrame 0 0x31 [])
      ∧ good (requestFrame 0 0x10 (List.replicate 24 0xFF)) ∧ ¬good (requestFrame 0 0x10 (List.replicate 25 0xFF))
      ∧ ¬good [0x00, 0x31, 0x00] ∧ ({ bench with port := { bench.port with credits := 0 } } : State).port.credits = 0 := by
  decide +kernel

theorem test_witness_AlteredByteIsRejected :
    bench.phase = .operating ∧ ([1] : List Byte).length ≤ 24 ∧ 2 < (requestFrame 0 0x10 [1]).length
      ∧ (0x02 : Byte) ≠ (requestFrame 0 0x10 [1]).getD 2 0 := by
  decide +kernel

theorem test_witness_FetchNextReturnsOldest :
    bench.phase = .operating ∧ bench.port.responses = []
      ∧ answeredOnce.port.responses = answeredOnce.port.responses.head?.toList ++ [] ∧ answeredOnce.port.responses ≠ [] := by
  decide +kernel

theorem test_witness_FetchAgainAndStatusChangeNothing :
    bench.phase = .operating ∧ bench.port.repeatBuf = none ∧ (ran (.fetchNext 29) answeredOnce).port.repeatBuf ≠ none := by
  decide +kernel

theorem test_witness_NotifyAndAcknowledge : bench.phase = .operating := by decide +kernel

theorem test_witness_UnreceivedTransactions :
    bench.phase = .operating ∧ (0x57 : Byte) ∉ ([0x51, 0x52, 0x53, 0x54, 0x55, 0x56, 0x5F] : List Byte)
      ∧ (ran .resetPin bench).phase ≠ .operating := by
  decide +kernel

theorem test_witness_PortByteAttnAndStatusBlock :
    CreditsHold bench ∧ bench.engine.attnCount ≤ 256 ∧ bench.engine.owed ≤ 2 ∧ bench.pool.free.length ≤ 239
      ∧ bench.pool.hold.length ≤ 32 := by
  decide +kernel

/-- Nothing is granted with no work, and a taken head or a flush that meets a sweep is no work. -/
theorem test_witness_ArbiterGrantsInRing :
    plain.granted = none
      ∧ ({ bench with port := { bench.port with requests := [⟨7, 0x31, [], true⟩] } } : State).granted = none
      ∧ ({ (bench.asked 0x31 []) with
            engine := { bench.engine with sweeping := true, pointer := .timer } } : State).granted
        = some (.sweepStep .holdList) := by
  decide +kernel

theorem test_witness_MisfitRequestsAnswered :
    (bench.asked 0x18 [1]).hostTakes 7 0x18 [1] ∧ (∀ x ∈ hostCatalogue, x.2.1 ≠ 0x18)
      ∧ (bench.asked 0x10 []).hostTakes 7 0x10 [] ∧ (.readRecord, 0x10, 1) ∈ hostCatalogue :=
  ⟨asked_takes rfl, by decide +kernel, asked_takes rfl, by decide⟩

/-- Every index, an ID in each of the three cases, and addresses at the edges of the assignable range. -/
theorem test_witness_RecordReadsAnswer :
    (bench.asked 0x10 [255]).hostTakes 7 0x10 [255]
      ∧ (∀ id ∈ ([0, 0xFFFFFFFFFFFFFFFF, moduleA, 5] : List ModuleId),
          (bench.asked 0x11 (idBytes id)).hostTakes 7 0x11 (idBytes id))
      ∧ bench.lookup moduleA = some 240 ∧ bench.lookup 5 = none
      ∧ (∀ a ∈ ([0x00, 0x01, 0x10, 0x30, 0x44, 0x70, 0xEF, 0xF0] : List Address),
          (bench.asked 0x12 [a]).hostTakes 7 0x12 [a]) :=
  ⟨asked_takes rfl, fun _ _ => asked_takes rfl, by decide +kernel, by decide +kernel, fun _ _ => asked_takes rfl⟩

theorem test_witness_LookupFindsTheRecord :
    BucketsHold bench ∧ IdsDistinct bench ∧ bench.placementWay 5 = some 20
      ∧ bench.placementWay 0x00C00000000000FC = none
      ∧ (bench.setRecord 241 recT).placementWay 0x00C00000000000FC = some 241 :=
  ⟨test_bench_buckets, test_bench_ids, by decide +kernel, by decide +kernel, by decide +kernel⟩

/-- The payload of BIND_STATIC. -/
def bindPayload (id : ModuleId) (a lease : Byte) : List Byte := idBytes id ++ [a, 9] ++ bytes16 0x8000 ++ [lease]

/-- Each check of BIND_STATIC in turn is met by some operands, at the edges of the ranges. -/
theorem test_witness_BindStaticChecks :
    (∀ x ∈ ([(0, 1, 1), (0xFFFFFFFFFFFFFFFF, 1, 1), (5, 0, 1), (5, 0xF0, 1), (5, 0xEF, 0), (moduleA, 1, 1), (5, 0x10, 1),
          (0xBC, 0x30, 1), (0x00C00000000000FC, 0xEF, 255)] : List (ModuleId × Byte × Byte)),
        (bench.asked 0x13 (bindPayload x.1 x.2.1 x.2.2)).hostTakes 7 0x13 (bindPayload x.1 x.2.1 x.2.2))
      ∧ bench.lookup moduleA = some 240 ∧ bench.lookup 0x00C00000000000FC = none
      ∧ bench.placementWay 0x00C00000000000FC = none ∧ bench.pool.map[0x10] = .bound 240
      ∧ bench.pool.map[0x30] = .offered 243 :=
  ⟨fun _ _ => asked_takes rfl, by decide +kernel⟩

theorem test_witness_BindStaticBinds :
    (bench.asked 0x13 (bindPayload 5 0x44 1)).hostTakes 7 0x13 (bindPayload 5 0x44 1) ∧ bench.lookup 5 = none
      ∧ bench.placementWay 5 = some 20 ∧ bench.pool.map[0x44] = .held
      ∧ (bench.asked 0x13 (bindPayload 0xBC 0x30 1)).hostTakes 7 0x13 (bindPayload 0xBC 0x30 1)
      ∧ bench.lookup 0xBC = some 243 ∧ bench.records[243].state = .pending ∧ bench.records[243].slot = some 0
      ∧ bench.slots[0] = some claimP :=
  ⟨asked_takes rfl, by decide +kernel, by decide +kernel, by decide +kernel, asked_takes rfl, by decide +kernel⟩

theorem test_witness_AddDenyBars :
    (∀ id ∈ ([0, moduleA, 0x00C00000000000FC, 5, 0xBC] : List ModuleId),
        (bench.asked 0x14 (idBytes id)).hostTakes 7 0x14 (idBytes id))
      ∧ bench.lookup moduleA = some 240 ∧ bench.lookup 0x00C00000000000FC = none
      ∧ bench.placementWay 0x00C00000000000FC = none ∧ bench.lookup 5 = none ∧ bench.placementWay 5 = some 20
      ∧ bench.lookup 0xBC = some 243 ∧ bench.records[243].slot = some 0 ∧ bench.slots[0] = some claimP :=
  ⟨fun _ _ => asked_takes rfl, by decide +kernel⟩

/-- Payloads of EDIT_RECORD whose checks fail in each place, and two that pass. -/
theorem test_witness_EditRecordChecksThenApplies :
    (∀ p ∈ ([[0, 0, 0, 0, 0, 0, 0, 0], [240, 0, 9, 0, 0, 0, 0, 0], [243, 0, 0, 0, 0, 0, 0, 0], [242, 0, 0, 1, 0, 0, 0, 0],
          [240, 0, 0, 4, 0, 0, 0, 0], [240, 0, 0, 0x30, 0, 0, 0, 0], [240, 0, 0, 0x34, 0, 0, 0, 0],
          [241, 0, 0, 0x10, 0, 0, 0, 0], [241, 0, 0, 0x20, 0, 0, 0, 0], [240, 0, 3, 0x1F, 8, 0x80, 0, 255],
          [242, 0, 1, 8, 0, 0, 0, 0]] : List (List Byte)),
        (bench.asked 0x15 p).hostTakes 7 0x15 p)
      ∧ bench.records[0].state = .empty ∧ bench.records[240].generation = 3 ∧ bench.records[240].kind = .dynamic
      ∧ bench.records[241].kind = .static ∧ bench.records[241].state = .dormant ∧ bench.records[242].kind = .denied
      ∧ bench.records[243].state = .pending :=
  ⟨fun _ _ => asked_takes rfl, by decide +kernel⟩

theorem test_witness_RetireRecordEnds :
    (∀ p ∈ ([[0, 0, 0, 0], [240, 0, 9, 0], [240, 0, 3, 2], [240, 0, 3, 0], [241, 0, 0, 1], [242, 0, 0, 1], [243, 0, 1, 0],
          [4, 0, 0, 0]] : List (List Byte)), (bench.asked 0x16 p).hostTakes 7 0x16 p)
      ∧ bench.records[240] = recA ∧ bench.records[241] = recS ∧ bench.records[242] = recD ∧ bench.records[243] = recP
      ∧ bench.records[4] = recT ∧ bench.slots[0] = some claimP :=
  ⟨fun _ _ => asked_takes rfl, by decide +kernel⟩

/-- The only notice stands at record 4: found from 4 at once, and from 5 after the wrap. -/
theorem test_witness_CollectAttentionReportsInOrder :
    (bench.asked 0x17 [5]).hostTakes 7 0x17 [5] ∧ bench.records[4].attention ≠ 0
      ∧ (∀ j : RecNo, j ≠ 4 → bench.records[j].attention = 0) ∧ (plain.asked 0x17 [0]).hostTakes 7 0x17 [0]
      ∧ plain.engine.attnCount = 0 :=
  ⟨asked_takes rfl, by decide +kernel, by decide +kernel, asked_takes rfl, by decide +kernel⟩

theorem test_witness_ReservationsMoveAddresses :
    (∀ a ∈ ([0x00, 0x01, 0x10, 0x30, 0x44, 0x70, 0xEF, 0xF0] : List Address),
        (bench.asked 0x20 [a]).hostTakes 7 0x20 [a] ∧ (bench.asked 0x21 [a]).hostTakes 7 0x21 [a])
      ∧ bench.pool.map[0x01] = .free ∧ bench.pool.map[0x10] = .bound 240 ∧ bench.pool.map[0x30] = .offered 243
      ∧ bench.pool.map[0x44] = .held ∧ bench.pool.map[0x70] = .reserved ∧ bench.pool.map[0xEF] = .free :=
  ⟨fun _ _ => ⟨asked_takes rfl, asked_takes rfl⟩, by decide +kernel⟩

theorem test_witness_PoolReadsAnswer :
    PoolAgrees (bench.asked 0x22 [0x44]) ∧ (bench.asked 0x22 [0x44]).hostTakes 7 0x22 [0x44]
      ∧ (∀ p ∈ ([[0, 0], [0, 232], [0, 233], [1, 1], [1, 2], [2, 0]] : List (List Byte)),
          (bench.asked 0x23 p).hostTakes 7 0x23 p)
      ∧ bench.pool.free.length = 233 ∧ bench.pool.hold.length = 2 ∧ bench.pool.hold[1]? = some ⟨0x61, none, 12⟩ :=
  ⟨test_bench_pool, asked_takes rfl, fun _ _ => asked_takes rfl, by decide +kernel⟩

theorem test_witness_SetModeRunsAndHalts :
    (∀ b ∈ ([0, 1, 2, 3] : List Byte), (bench.asked 0x30 [b]).hostTakes 7 0x30 [b]
        ∧ (State.reset.asked 0x30 [b]).hostTakes 7 0x30 [b])
      ∧ bench.engine.mode = .running ∧ State.reset.engine.mode = .halted
      ∧ (∀ b ∈ ([1, 2] : List Byte), (State.asked { plain with engine := { plain.engine with mode := .flushing } } 0x30
          [b]).hostTakes 7 0x30 [b]) :=
  ⟨fun _ _ => ⟨asked_takes rfl, asked_takes rfl⟩, by decide +kernel, by decide +kernel, fun _ _ => asked_takes rfl⟩

theorem test_witness_FlushRunsToItsEnd :
    let s : Nat → State := fun i => { bench with engine := { bench.engine with
      mode := .flushing, flushing := true, flushNext := Fin.ofNat 256 i, pointer := .seg 3 } }
    (bench.asked 0x31 []).hostTakes 7 0x31 [] ∧ (State.reset.asked 0x31 []).hostTakes 7 0x31 []
      ∧ (s 240).granted = some (.flushStep 240) ∧ (s 255).granted = some (.flushStep 255)
      ∧ (s 241).granted = some (.flushStep 241) ∧ bench.records[240].kind = .dynamic ∧ bench.records[240].state = .active
      ∧ bench.records[241].kind ≠ .dynamic :=
  ⟨asked_takes rfl, asked_takes rfl, by decide +kernel⟩

/-- The payload of CONFIGURE with two of its fields. -/
def configurePayload (khz : BitVec 16) (tick : Byte) : List Byte :=
  bytes16 khz ++ [tick, 60, 10, 30, 25, 50, 0x01, 0x01, 0xEF] ++ bytes16 0

theorem test_witness_ConfigureChecksAndSets :
    (∀ x ∈ ([(999, 1), (1000, 0), (50000, 255), (50001, 1)] : List (BitVec 16 × Byte)),
        (State.reset.asked 0x32 (configurePayload x.1 x.2)).hostTakes 7 0x32 (configurePayload x.1 x.2))
      ∧ State.reset.engine.mode = .halted ∧ (bench.asked 0x32 (configurePayload 1000 1)).hostTakes 7 0x32
        (configurePayload 1000 1) ∧ bench.engine.mode ≠ .halted :=
  ⟨fun _ _ => asked_takes rfl, by decide +kernel, asked_takes rfl, by decide +kernel⟩

theorem test_witness_SettingsReadBack :
    (bench.asked 0x33 []).hostTakes 7 0x33 []
      ∧ (∀ x ∈ ([(0x41, 15), (0x41, 16), (0x43, 15), (0x43, 16), (0x50, 0), (0x50, 7), (0x50, 8), (0x61, 3), (0x61, 4)]
          : List (Byte × Byte)), (bench.asked x.1 [x.2]).hostTakes 7 x.1 [x.2])
      ∧ bench.slots[0] = some claimP ∧ bench.slots[7] = none :=
  ⟨asked_takes rfl, fun _ _ => asked_takes rfl, by decide +kernel⟩

/-- The payload of WRITE_RULE with some of its fields. -/
def rulePayload (slot valid action length low high lease : Byte) : List Byte :=
  [slot, valid, action, length] ++ idBytes 0 ++ [0x0F, 1, 3] ++ bytes16 0 ++ [low, high, lease]

theorem test_witness_RulesAndGroupsAreWritten :
    (∀ p ∈ ([rulePayload 16 1 0 0 1 1 1, rulePayload 15 2 0 0 1 1 1, rulePayload 15 0 9 99 0 0 0, rulePayload 15 1 2 0 1 1 1,
          rulePayload 15 1 1 65 1 1 1, rulePayload 15 1 1 64 0 1 1, rulePayload 15 1 1 64 0xEF 0xEE 1,
          rulePayload 15 1 1 64 0xEF 0xEF 0, rulePayload 15 1 1 64 0xEF 0xEF 255] : List (List Byte)),
        (bench.asked 0x40 p).hostTakes 7 0x40 p)
      ∧ (∀ p ∈ ([[15, 1, 0xFF], [16, 1, 0], [15, 2, 0], [16, 2, 0]] : List (List Byte)), (bench.asked 0x42 p).hostTakes 7 0x42 p) :=
  ⟨fun _ _ => asked_takes rfl, fun _ _ => asked_takes rfl⟩

theorem test_witness_SegmentControlActs :
    (∀ p ∈ ([[4, 1, 1, 0, 0, 1, 0], [3, 2, 1, 0, 0, 1, 0], [3, 1, 2, 0, 0, 1, 0], [3, 1, 1, 2, 0, 1, 0], [3, 1, 1, 0, 0, 4, 0],
          [3, 1, 1, 0, 0, 1, 2], [3, 1, 1, 0, 0, 3, 0], [3, 1, 1, 1, 0, 1, 1], [3, 0, 1, 0, 0, 3, 0]] : List (List Byte)),
        (bench.asked 0x60 p).hostTakes 7 0x60 p ∧ (State.reset.asked 0x60 p).hostTakes 7 0x60 p)
      ∧ bench.segs[3].state = .listening ∧ bench.segs[3].bitRate = .k125 ∧ State.reset.segs[3].state = .disabled
      ∧ (bench.enterFault 3).segs[3].faultNotice = true :=
  ⟨fun _ _ => ⟨asked_takes rfl, asked_takes rfl⟩, by decide +kernel⟩

/-- A pool whose hold list is full. -/
def fullPool : Pool :=
  { map := tabulate 256 fun a => if a.val = 0 ∨ 0xF0 ≤ a.val then .invalid else if a.val ≤ 32 then .held else .reserved
    free := []
    hold := (List.range 32).map fun k => ⟨BitVec.ofNat 8 (k + 1), none, 3⟩ }

theorem test_witness_PoolMovesKeepAgreement :
    bench.pool.agrees ∧ bench.pool.hold.length < 32 ∧ fullPool.agrees
      ∧ fullPool.hold.filter (·.address != 0x40) = ⟨0x01, none, 3⟩ :: fullPool.hold.tail ∧ fullPool.hold.tail.length = 31
      ∧ (0x01 : Address) ≤ 0x40 ∧ (0x40 : Address) ≤ 0xEF :=
  ⟨test_bench_pool, by decide +kernel, by decide +kernel, by decide +kernel, by decide +kernel, by decide, by decide⟩

theorem test_witness_WithdrawalReturnsClaims : bench.slots[0] = some claimP ∧ TablesAgree bench :=
  ⟨by decide +kernel, test_bench_tables⟩

theorem test_witness_AllocationTakesFirstInRange :
    bench.pool.agrees ∧ bench.pool.free.contains 0xEF = true ∧ bench.pool.hold = [⟨0x44, some moduleC, 5⟩, ⟨0x61, none, 12⟩]
      ∧ bench.pool.free.take 1 = [0x01] ∧ bench.pool.free.all (fun b => !inRange 0x61 0x61 b) = true
      ∧ bench.pool.free.all (fun b => !inRange 0x70 0x70 b) = true :=
  ⟨test_bench_pool, by decide +kernel, by decide +kernel, by decide +kernel, by decide +kernel, by decide +kernel⟩

/-- A segment with six messages queued. -/
def fullSeg : SegCtl := { upSeg with tx := List.replicate 6 ⟨0xFF, .reannounce, 0⟩ }

theorem test_witness_PlacementAndTaking :
    (bench.withSeg 2 { fullSeg with tx := fullSeg.tx.tail }).hasRoom 2 ∧ ¬(bench.withSeg 2 fullSeg).hasRoom 2
      ∧ State.reset.segs[2].state = .disabled
      ∧ (bench.heard 1 0x10 (.heartbeat moduleA)).segs[1].rx = [⟨0xF0, 0x10, .heartbeat moduleA⟩] := by
  decide +kernel

/-- A frame that stands at SEGn is taken there. -/
theorem test_witness_frames :
    (bench.heard 1 0x00 (.announce 5 9 0x00)).segTakes 1 0x00 (.announce 5 9 0x00)
      ∧ (bench.heard 3 0x00 (.announce 5 9 0x00)).segTakes 3 0x00 (.announce 5 9 0x00) :=
  ⟨heard_takes rfl, heard_takes rfl⟩

theorem test_witness_AnnounceRefused :
    (exampleRules.heard 2 0 (.announce moduleA 9 0)).segTakes 2 0 (.announce moduleA 9 0)
      ∧ exampleRules.engine.mode = .running ∧ exampleRules.lookup moduleA = none ∧ exampleRules.policy[2].learning = true
      ∧ exampleRules.firstCovers 2 moduleA 0 ∧ exampleRules.rules[0].action = .deny
      ∧ exampleRules.noneCovers 3 moduleC ∧ exampleRules.config.defaultPolicy = .deny :=
  ⟨heard_takes rfl, by decide +kernel⟩

/-- An admitted announce that finds every slot busy, the bucket full, or no address in its range. -/
theorem test_witness_AnnounceRefused_admitted :
    exampleRules.admits 1 moduleA 9 ⟨0x10, 0x3F, 9, 0x0012, 30, some 1⟩
      ∧ bench.admits 1 5 9 ⟨0x01, 0xEF, 9, 0, 60, none⟩ ∧ bench.slots[1] = none
      ∧ bench.placementWay 0x00C00000000000FC = none ∧ bench.lookup 0x00C00000000000FC = none
      ∧ fullPool.allocateFirst 0xEF 0xEF 5 0 = none
      ∧ (∀ k : SlotNo, ({ bench with slots := Vector.replicate 8 (some claimP) } : State).slots[k] ≠ none) :=
  ⟨⟨by decide +kernel, .inl ⟨1, by decide +kernel, by decide +kernel, rfl⟩⟩,
    ⟨by decide +kernel, .inr ⟨by decide +kernel, by decide +kernel, rfl⟩⟩, by decide +kernel, by decide +kernel,
    by decide +kernel, by decide +kernel, by decide +kernel⟩

theorem test_witness_AnnounceCreatesClaim :
    let s := bench.heard 1 0x00 (.announce 5 9 0x44)
    s.segTakes 1 0x00 (.announce 5 9 0x44) ∧ s.engine.mode = .running ∧ s.lookup 5 = none
      ∧ s.admits 1 5 9 ⟨0x01, 0xEF, 9, 0, 60, none⟩ ∧ s.slots[1] = none ∧ (∀ j : SlotNo, j < 1 → s.slots[j] ≠ none)
      ∧ s.placementWay 5 = some 20 ∧ s.pool.allocateFirst 0x01 0xEF 5 0x44 = some 0x01 ∧ s.hasRoom 1
      ∧ ¬(s.withSeg 1 fullSeg).hasRoom 1 :=
  ⟨heard_takes rfl, by decide +kernel, by decide +kernel,
    ⟨by decide +kernel, .inr ⟨by decide +kernel, by decide +kernel, rfl⟩⟩, by decide +kernel, by decide +kernel,
    by decide +kernel, by decide +kernel, by decide +kernel, by decide +kernel⟩

theorem test_witness_RepeatAnnounceOffersAgain :
    let s := bench.heard 3 0x00 (.announce 0xBC 9 0)
    s.segTakes 3 0x00 (.announce 0xBC 9 0) ∧ s.engine.mode = .running ∧ s.lookup 0xBC = some 243
      ∧ s.records[243].kind = .dynamic ∧ s.records[243].state = .pending ∧ s.records[243].slot = some 0
      ∧ s.slots[0] = some claimP ∧ claimP.record = 243 ∧ claimP.id = 0xBC ∧ claimP.repeats < 3
      ∧ 3 ≤ ({ claimP with repeats := 3 } : Claim).repeats ∧ ((s.takeFrame 3).removeOffers 7).hasRoom 3 :=
  ⟨heard_takes rfl, by decide +kernel⟩

theorem test_witness_AnnounceFromKnownModule :
    (bench.lookup 0x000100000000003D = some 242 ∧ bench.lookup 0x004000000000007C = some 241
        ∧ bench.lookup moduleA = some 240)
      ∧ bench.records[242].kind = .denied ∧ bench.records[241] = recS ∧ bench.records[240] = recA
      ∧ (bench.heard 1 0 (.announce moduleA 1 0)).segTakes 1 0 (.announce moduleA 1 0)
      ∧ (bench.heard 2 0 (.announce moduleA 1 0)).segTakes 2 0 (.announce moduleA 1 0) ∧ bench.hasRoom 2
      ∧ bench.policy[2].acceptMoves = true :=
  ⟨by decide +kernel, by decide +kernel, by decide +kernel, by decide +kernel, heard_takes rfl,
    heard_takes rfl, by decide +kernel, by decide +kernel⟩

theorem test_witness_AcceptCommits :
    (bench.heard 1 0 (.accept 0xBC 7 0x30)).segTakes 1 0 (.accept 0xBC 7 0x30) ∧ bench.slots[0] = some claimP
      ∧ claimP.nonce = 7 ∧ claimP.address = 0x30 ∧ bench.records[243] = recP
      ∧ (bench.heard 1 0 (.accept moduleA 7 0x10)).segTakes 1 0 (.accept moduleA 7 0x10)
      ∧ bench.lookup moduleA = some 240 ∧ bench.records[240] = recA
      ∧ (bench.heard 2 0 (.accept 0x004000000000007C 7 0x20)).segTakes 2 0 (.accept 0x004000000000007C 7 0x20)
      ∧ bench.lookup 0x004000000000007C = some 241 ∧ bench.records[241] = recS :=
  ⟨heard_takes rfl, by decide +kernel, by decide, by decide, by decide +kernel, heard_takes rfl,
    by decide +kernel, by decide +kernel, heard_takes rfl, by decide +kernel, by decide +kernel⟩

theorem test_witness_DeclineOffersAgain :
    (bench.heard 1 0 (.decline 0xBC 7)).segTakes 1 0 (.decline 0xBC 7) ∧ bench.slots[0] = some claimP
      ∧ bench.records[243].state = .pending ∧ bench.records[243].address = some claimP.address ∧ claimP.declines < 2
      ∧ (bench.pool.toHold 30 0x30 none).allocateAgain 0x01 0xEF 0x30 = some 0x01
      ∧ (bench.pool.toHold 30 0x30 none).allocateAgain 0x30 0x30 0x30 = none
      ∧ (bench.heard 1 0 (.decline 0xBC 8)).segTakes 1 0 (.decline 0xBC 8) :=
  ⟨heard_takes rfl, by decide +kernel, by decide +kernel, by decide +kernel, by decide, by decide +kernel,
    by decide +kernel, heard_takes rfl⟩

theorem test_witness_HeartbeatRefreshesOrRevokes :
    (bench.heard 1 0x10 (.heartbeat moduleA)).segTakes 1 0x10 (.heartbeat moduleA)
      ∧ (bench.heard 1 0x10 (.heartbeat 5)).segTakes 1 0x10 (.heartbeat 5)
      ∧ (bench.heard 2 0xEF (.heartbeat moduleA)).segTakes 2 0xEF (.heartbeat moduleA)
      ∧ bench.pool.map[0x10] = .bound 240 ∧ bench.records[240] = recA ∧ bench.pool.map[0xEF] = .free :=
  ⟨heard_takes rfl, heard_takes rfl, heard_takes rfl, by decide +kernel, by decide +kernel,
    by decide +kernel⟩

theorem test_witness_ReleaseEndsBinding :
    (bench.heard 1 0x10 (.release moduleA)).segTakes 1 0x10 (.release moduleA)
      ∧ (bench.heard 1 0x01 (.release moduleA)).segTakes 1 0x01 (.release moduleA)
      ∧ bench.pool.map[0x10] = .bound 240 ∧ bench.records[240] = recA ∧ bench.pool.map[0x01] = .free
      ∧ recA.kind = .dynamic ∧ ({ recA with kind := .static } : Record).kind = .static :=
  ⟨heard_takes rfl, heard_takes rfl, by decide +kernel, by decide +kernel, by decide +kernel, by decide,
    by decide⟩

/-- The frame stands at S1, and the tables are those of `bench`. -/
theorem test_witness_ResolveAnswersVisibleRecords :
    (bench.heard 1 0x10 (.resolve moduleA (.byGroup 15 0))).segTakes 1 0x10 (.resolve moduleA (.byGroup 15 0))
      ∧ TablesAgree (bench.heard 1 0x10 (.resolve moduleA (.byGroup 15 0)))
      ∧ bench.pool.map[0x10] = .bound 240 ∧ bench.records[240] = recA ∧ bench.policy[1].visible = 0xF
      ∧ bench.groups[1].enabled = true ∧ bench.groups[15].enabled = false :=
  ⟨heard_takes rfl, test_bench_tables, by decide +kernel, by decide +kernel, by decide +kernel, by decide +kernel,
    by decide +kernel⟩

theorem test_witness_StuckLineFaultsSegment :
    (bench.withSeg 3 { upSeg with monitor := .measuring }).segs[3].monitor = .measuring
      ∧ ({ bench.enterFault 3 with engine := { bench.engine with pointer := .seg 2 } } : State).granted
        = some (.faultNotice 3) := by
  decide +kernel

theorem test_witness_TransmitNoticesMoveClaims :
    (∀ x ∈ ([⟨true, 7⟩, ⟨false, 7⟩, ⟨true, 9⟩] : List Notice),
        ({ bench with
          engine := { bench.engine with pointer := .host }
          segs := bench.segs.set 1 { upSeg with notices := [x] } } : State).granted = some (.notice 1 x))
      ∧ bench.slots[0] = some claimP ∧ claimP.nonce = 7
      ∧ ({ claimP with phase := .sending } : Claim).phase = .sending ∧ claimP.segment = 1 := by
  decide +kernel

theorem test_witness_ClaimsExpire :
    bench.slots[0] = some claimP ∧ claimP.phase = .offered ∧ claimP.window ≠ 0 ∧ 0 ∉ bench.due
      ∧ 2 ∉ (ran (.offerWindowRunOut 5) benchTwoOffers).due ∧ 5 ∈ (ran (.offerWindowRunOut 5) benchTwoOffers).ranOut
      ∧ ({ ran (.offerWindowRunOut 0) bench with engine := { bench.engine with pointer := .seg 3 } } : State).granted
        = some (.expiry 0) := by
  decide +kernel

theorem test_witness_HoldListCountsDown :
    PoolAgrees (bench.sweepingAt .holdList) ∧ (bench.sweepingAt .holdList).granted = some (.sweepStep .holdList) :=
  ⟨test_bench_pool, by decide +kernel⟩

theorem test_witness_SweepVisitsAgeRecords :
    (∀ i ∈ ([0, 240, 241, 255] : List RecNo), (bench.sweepingAt (.visit i)).granted = some (.sweepStep (.visit i)))
      ∧ bench.records[240] = recA ∧ recA.state = .active ∧ 1 < recA.ticks.toNat ∧ bench.records[241].state = .dormant
      ∧ ({ recA with ticks := 1 } : Record).ticks = 1 ∧ ({ recA with state := .stale } : Record).state = .stale := by
  decide +kernel

theorem test_witness_ReceiverFollowsLine :
    plain.segs[0].state = .listening ∧ plain.segs[0].receiver = .ready
      ∧ (plain.withSeg 0 { upSeg with receiver := .gap }).segs[0].receiver = .gap
      ∧ (plain.withSeg 0 { upSeg with receiver := .receiving }).segs[0].receiver = .receiving := by
  decide +kernel

/-- A frame of module A that is lawful. -/
def frameA : RxFrame := ⟨0xF0, 0x10, .heartbeat moduleA⟩

theorem test_frameA_lawful : frameA.lawful := by unfold RxFrame.lawful frameA lawfulId moduleA; decide

theorem test_witness_FilterJudgesFrames :
    (lineDecode (lineCode frameA.frame)).2 = false ∧ wholeBytes (lineDecode (lineCode frameA.frame)).1 = frameA.frame
      ∧ (lineDecode (lineCode frameA.frame)).1.length ≤ 320 ∧ frameA.frame.length = 14
      ∧ 320 < (lineDecode (lineCode (List.replicate 41 0x55))).1.length := by
  decide +kernel

theorem test_witness_LineCodeRoundTrip :
    Level.active :: lineCode [0xC0] = [.active] ++ List.replicate 2 .idle ++ List.replicate 6 .active ++ [.idle, .active]
      ∨ Level.active :: lineCode [0xC0] = [.active] ++ List.replicate 2 .idle ++ List.replicate 6 .active ++ [.idle] := by
  decide +kernel

theorem test_witness_ModuleFrameArrives :
    frameA.lawful ∧ (plain.withSeg 0 { upSeg with receiver := .receiving }).segs[0].state = .listening
      ∧ (plain.withSeg 0 { upSeg with receiver := .receiving }).segs[0].rx.length < 2 :=
  ⟨test_frameA_lawful, by decide +kernel, by decide +kernel⟩

theorem test_witness_TransmitterSendsHead :
    (plain.place 0 0xFF .reannounce).segs[0].tx = [⟨0xFF, .reannounce, 0⟩]
      ∧ (ran (.attemptStart 0) (plain.place 0 0xFF .reannounce)).segs[0].transmitter = .sending
      ∧ (plain.withSeg 2 { upSeg with transmitter := .backoff 112 }).segs[2].transmitter = .backoff 112 := by
  decide +kernel

/-- The premises of the statements StepKeeps…: a step from a state that meets every invariant. -/
theorem test_witness_StepKeeps :
    (∃ t, step bench = .next t) ∧ CreditsHold bench ∧ NonceLive bench ∧ LongOperationsAgree bench ∧ AttentionExact bench
      ∧ MembersExact bench ∧ SegmentsAgree bench ∧ TablesAgree bench ∧ BucketsHold bench ∧ IdsDistinct bench
      ∧ SettingsInBounds bench ∧ LeasesRun bench ∧ ExpiriesAgree bench :=
  ⟨⟨_, rfl⟩, test_bench_port.1, test_bench_port.2.1, test_bench_port.2.2, test_bench_counts.1, test_bench_counts.2,
    test_bench_segments, test_bench_tables, test_bench_buckets, test_bench_ids, test_bench_settings, test_bench_leases,
    test_bench_expiries⟩

end Sys2Proof.Machine
end

section
/-! PROOF. READ_RECORD, FIND_ID and FIND_ADDRESS (R19 to R21): the fields of their payloads, the record image (R190), what
each command answers, and O14 from these. -/

namespace Sys2Proof.Machine

/-! ### Bytes and fields -/

/-- The bytes of an ID at the front of a payload are read back as the ID. -/
@[simp] theorem idAt_idBytes_append (id : ModuleId) (rest : List Byte) : idAt (idBytes id ++ rest) 0 = id := by
  simp only [idAt, byteAt, idBytes, joinId, List.cons_append, List.getD_cons_zero, List.getD_cons_succ]
  iterate 7 rw [BitVec.extractLsb'_append_extractLsb'_eq_extractLsb' (by rfl)]
  exact BitVec.extractLsb'_eq_self

@[simp] theorem idAt_idBytes (id : ModuleId) : idAt (idBytes id) 0 = id := idAt_idBytes_append id []

/-- A record index at the front of a payload is read back as the index. -/
@[simp] theorem indexAt_ofNat_cons (i : RecNo) (rest : List Byte) : indexAt (BitVec.ofNat 8 i.val :: rest) 0 = i :=
  Fin.ext (Nat.mod_eq_of_lt i.isLt)

theorem invalidId_iff {id : ModuleId} : invalidId id = true ↔ id = 0 ∨ id = 0xFFFFFFFFFFFFFFFF := by
  simp [invalidId]

theorem assignable_iff {a : Address} : assignable a = true ↔ a ≠ 0 ∧ a < 0xF0 := by
  rw [assignable, Bool.and_eq_true, decide_eq_true_eq, decide_eq_true_eq, Config.firstAddress, Config.lastAddress]
  bv_omega

/-- The number folded from a list of bits, lowest first, has those bits and no others. -/
theorem testBit_foldr_bits (bs : List Bool) (k : Nat) :
    (bs.foldr (fun (b : Bool) (n : Nat) => b.toNat + 2 * n) 0).testBit k = bs.getD k false := by
  induction bs generalizing k with
  | nil => simp
  | cons b bs ih =>
    rw [List.foldr_cons, Nat.add_comm, ← Nat.bit_val]
    cases k with
    | zero => simp
    | succ k => simp [Nat.testBit_bit_succ, ih]

theorem bitsByte_getLsbD (bs : List Bool) {k : Nat} (h : k < 8) : (bitsByte bs).getLsbD k = bs.getD k false := by
  rw [bitsByte, numByte, BitVec.getLsbD_ofNat, testBit_foldr_bits, decide_eq_true h, Bool.true_and]

/-! ### The record image (R190) -/

theorem high_nibble_append (a b : BitVec 4) : (a ++ b : BitVec 8).extractLsb' 4 4 = a :=
  BitVec.extractLsb'_append_of_eq (k := 1) rfl

theorem low_nibble_append (a b : BitVec 4) : (a ++ b : BitVec 8).extractLsb' 0 4 = b := by
  rw [BitVec.extractLsb'_append_eq_of_add_le (by decide), BitVec.extractLsb'_eq_self]

/-- The byte of an index that may be absent: 00h where it is. -/
def indexByte {n : Nat} (o : Option (Fin n)) : Byte :=
  match o with
  | none => 0x00
  | some k => BitVec.ofNat 8 k.val

theorem numByte_eq_indexByte {n : Nat} (o : Option (Fin n)) : numByte ((o.map Fin.val).getD 0) = indexByte o := by
  cases o <;> rfl

/-- The image field by field, given what the bytes of its three indices are. -/
theorem image_eq {r : Record} {segment rule slot : Byte} (hsegment : indexByte r.segment = segment)
    (hrule : indexByte r.rule = rule) (hslot : indexByte r.slot = slot) :
    r.image = [(r.kind.code ++ r.state.code : BitVec 8)] ++ idBytes (r.id.getD 0)
      ++ [r.address.getD 0, r.cls.getD 0, r.lease.getD 0, r.ticks, BitVec.ofNat 8 r.conflicts.toNat]
      ++ bytes16 r.groups ++ [r.attention] ++ bytes16 r.generation ++ [segment, rule, slot, r.presence] := by
  simp only [Record.image, numByte_eq_indexByte, hsegment, hrule, hslot, BitVec.ofNat_toNat]

/-- The bits of the presence byte say which of the five fields are present. -/
theorem presence_bits (r : Record) :
    r.presence.getLsbD 0 = r.segment.isSome ∧ r.presence.getLsbD 1 = r.cls.isSome
      ∧ r.presence.getLsbD 2 = r.lease.isSome ∧ r.presence.getLsbD 3 = r.rule.isSome
      ∧ r.presence.getLsbD 4 = r.slot.isSome := by
  have hbit := @bitsByte_getLsbD [r.segment.isSome, r.cls.isSome, r.lease.isSome, r.rule.isSome, r.slot.isSome]
  exact ⟨hbit (by decide), hbit (by decide), hbit (by decide), hbit (by decide), hbit (by decide)⟩

/-! ### Served requests that change no table -/

/-- A request of the right LENGTH whose command changes nothing itself is answered, and nothing else changes. -/
theorem serve_eq_answered {s : State} {tag code : Byte} {payload : List Byte} {length : Nat}
    {run : List Byte → State → State × Answer} {a : Answer} (h : s.hostTakes tag code payload)
    (hl : payload.length = length) (hrun : run payload (s.pointTo .host) = (s.pointTo .host, a)) :
    s.serve code length run = s.answered tag code a.status a.payload := by
  simp only [State.serve, h, hl, hrun, if_true]
  rfl

/-! ### READ_RECORD (R19) -/

/-- READ_RECORD answers the record at its index. -/
theorem readRecord_answers {s : State} {tag : Byte} {i : RecNo} (h : s.hostTakes tag 0x10 [BitVec.ofNat 8 i.val]) :
    exec .readRecord s = .next (s.answered tag 0x10 .ok (BitVec.ofNat 8 i.val :: s.records[i].image)) := by
  have hrun : (s.pointTo .host).readRecord (indexAt [BitVec.ofNat 8 i.val] 0)
      = (s.pointTo .host, .record .ok i s.records[i]) := by
    rw [indexAt_ofNat_cons]
    rfl
  exact congrArg Host.Outcome.next (serve_eq_answered (a := .record .ok i s.records[i]) h rfl hrun)

/-! ### FIND_ID (R20) -/

/-- FIND_ID is answered as its operation answers, which the arbiter's pointer does not touch. -/
theorem findId_answers {s : State} {tag : Byte} {id : ModuleId} {a : Answer} (h : s.hostTakes tag 0x11 (idBytes id))
    (ha : (s.pointTo .host).findId id = (s.pointTo .host, a)) :
    exec .findId s = .next (s.answered tag 0x11 a.status a.payload) := by
  have hrun : (s.pointTo .host).findId (idAt (idBytes id) 0) = (s.pointTo .host, a) := by rw [idAt_idBytes, ha]
  exact congrArg Host.Outcome.next (serve_eq_answered h rfl hrun)

theorem findId_of_invalid {id : ModuleId} (s : State) (h : invalidId id = true) :
    s.findId id = (s, .bare .idInvalid) := by
  simp [State.findId, h]

theorem findId_of_lookup_some {s : State} {id : ModuleId} {i : RecNo} (h : ¬invalidId id = true)
    (hi : s.lookup id = some i) : s.findId id = (s, .record .ok i s.records[i]) := by
  simp [State.findId, h, hi]

theorem findId_of_lookup_none {s : State} {id : ModuleId} (h : ¬invalidId id = true) (hi : s.lookup id = none) :
    s.findId id = (s, .bare .notFound) := by
  simp [State.findId, h, hi]

/-! ### FIND_ADDRESS (R21) -/

/-- FIND_ADDRESS is answered as its operation answers, which the arbiter's pointer does not touch. -/
theorem findAddress_answers {s : State} {tag : Byte} {b : Address} {a : Answer} (h : s.hostTakes tag 0x12 [b])
    (ha : (s.pointTo .host).findAddress b = (s.pointTo .host, a)) :
    exec .findAddress s = .next (s.answered tag 0x12 a.status a.payload) :=
  congrArg Host.Outcome.next (serve_eq_answered h rfl ha)

theorem placeOf_of_assignable {a : Address} (p : Pool) (h : assignable a = true) : p.placeOf a = p.map[a.toFin] :=
  if_pos h

theorem placeOf_of_not_assignable {a : Address} (p : Pool) (h : ¬assignable a = true) : p.placeOf a = .invalid :=
  if_neg h

/-- An OFFERED or BOUND address is answered with the record it is offered or bound to. -/
theorem findAddress_of_record {s : State} {a : Address} {i : RecNo}
    (h : s.pool.placeOf a = .offered i ∨ s.pool.placeOf a = .bound i) :
    s.findAddress a = (s, .record .ok i s.records[i]) := by
  rcases h with h | h <;> simp [State.findAddress, h]

/-- Any other address is answered with its address state. -/
theorem findAddress_of_no_record {s : State} {a : Address} {place : Place} (h : s.pool.placeOf a = place)
    (ho : ∀ i, place ≠ .offered i) (hb : ∀ i, place ≠ .bound i) :
    s.findAddress a = (s, ⟨.notFound, [place.code]⟩) := by
  subst h
  unfold State.findAddress
  split
  · next i h => exact absurd h (ho i)
  · next i h => exact absurd h (hb i)
  · rfl

/-! ### The obligation -/

/-- Settles O14: the image from its layout, and each command from what its operation answers. -/
theorem recordReadsAnswer : Obligations.RecordReadsAnswer := by
  refine ⟨fun r => ⟨r.kind.code ++ r.state.code, r.presence, image_eq ?segment ?rule ?slot, ?kind, ?state,
      presence_bits r⟩,
    fun s tag => ⟨fun i h => readRecord_answers h, fun id h => ⟨fun hinv => ?invalid, fun h0 hF => ?valid⟩,
      fun a h => ⟨fun hout => ?outside, fun h0 hF => ?inside⟩⟩⟩
  case segment => cases r.segment <;> rfl
  case rule => cases r.rule <;> rfl
  case slot => cases r.slot <;> rfl
  case kind => rw [high_nibble_append]; cases r.kind <;> rfl
  case state => rw [low_nibble_append]; cases r.state <;> rfl
  case invalid => exact findId_answers h (findId_of_invalid _ (invalidId_iff.mpr hinv))
  case valid =>
    have hid : ¬invalidId id = true := fun hinv => (invalidId_iff.mp hinv).elim h0 hF
    exact ⟨fun i hi => findId_answers h (findId_of_lookup_some hid hi),
      fun hn => findId_answers h (findId_of_lookup_none hid hn)⟩
  case outside =>
    have ha : ¬assignable a = true := by rw [assignable_iff]; bv_omega
    exact findAddress_answers h (findAddress_of_no_record (placeOf_of_not_assignable _ ha) nofun nofun)
  case inside =>
    have hp := placeOf_of_assignable s.pool (assignable_iff.mpr ⟨h0, hF⟩)
    exact ⟨fun i hi => findAddress_answers h (findAddress_of_record (hi.imp hp.trans hp.trans)),
      fun hf => findAddress_answers h (findAddress_of_no_record (hp.trans hf) nofun nofun),
      fun hh => findAddress_answers h (findAddress_of_no_record (hp.trans hh) nofun nofun),
      fun hr => findAddress_answers h (findAddress_of_no_record (hp.trans hr) nofun nofun)⟩

end Sys2Proof.Machine
end

section
/-! PROOF. The delivery of an aging tick (R114): when a FLUSH_DYNAMIC waits, what owing a tick does, what a delivery does in
each mode, what it leaves, and AgingTickActsByMode. -/

namespace Sys2Proof.Machine

/-! ### A FLUSH_DYNAMIC at the head -/

theorem flushWaiting_iff (s : State) :
    s.flushWaiting = true ↔ ∃ r ∈ s.port.requests.head?, r.taken = false ∧ r.command = 0x31 := by
  unfold State.flushWaiting
  cases s.port.requests with
  | nil => simp
  | cons r rs => simp [flushCode]

theorem flushWaiting_eq_false_iff (s : State) :
    s.flushWaiting = false ↔ ∀ r ∈ s.port.requests.head?, r.taken = true ∨ r.command ≠ 0x31 := by
  rw [Bool.eq_false_iff, Ne, flushWaiting_iff]
  simp [imp_iff_not_or]

/-! ### An owed tick -/

theorem oweTick_of_room {s : State} (h : s.engine.owed < 2) :
    s.oweTick = s.withEngine { s.engine with owed := s.engine.owed + 1 } :=
  if_pos h

/-- A tick that finds two owed is lost, and SWEEP_LAG records it. -/
theorem oweTick_of_full {s : State} (h : 2 ≤ s.engine.owed) : s.oweTick = s.raise .sweepLag :=
  if_neg (Nat.not_lt.mpr h)

theorem oweTick_frame (s : State) : s.oweTick = { s with engine := s.oweTick.engine, port := s.oweTick.port } := by
  rcases Nat.lt_or_ge s.engine.owed 2 with h | h
  · rw [oweTick_of_room h]; rfl
  · rw [oweTick_of_full h]; rfl

/-! ### The delivery in each mode -/

theorem deliverTick_of_halted {s : State} (h : s.engine.mode = .halted) : s.deliverTick = s := by
  simp [State.deliverTick, h]

theorem deliverTick_of_free {s : State} (hm : s.engine.mode = .running) (hs : s.engine.sweeping = false)
    (hf : s.flushWaiting = false) : s.deliverTick = s.withEngine s.engine.startSweep := by
  simp [State.deliverTick, hm, hs, hf]

theorem deliverTick_of_busy {s : State} (hm : s.engine.mode = .running)
    (h : s.engine.sweeping = true ∨ s.flushWaiting = true) : s.deliverTick = s.oweTick := by
  simp [State.deliverTick, hm, h]

theorem deliverTick_of_flushing {s : State} (h : s.engine.mode = .flushing) : s.deliverTick = s.oweTick := by
  simp [State.deliverTick, h]

/-- A delivery is no grant: it reaches the Table Engine and the Host Port's flags alone (R54). -/
theorem deliverTick_frame (s : State) :
    s.deliverTick = { s with engine := s.deliverTick.engine, port := s.deliverTick.port } := by
  cases hm : s.engine.mode with
  | halted => rw [deliverTick_of_halted hm]
  | flushing => rw [deliverTick_of_flushing hm]; exact oweTick_frame s
  | running =>
    by_cases h : s.engine.sweeping = true ∨ s.flushWaiting = true
    · rw [deliverTick_of_busy hm h]; exact oweTick_frame s
    · obtain ⟨hs, hf⟩ := not_or.mp h
      rw [deliverTick_of_free hm (Bool.eq_false_iff.mpr hs) (Bool.eq_false_iff.mpr hf)]; rfl

@[simp] theorem State.deliverTick_aging (s : State) : s.deliverTick.aging = s.aging := by
  rw [deliverTick_frame]

/-! ### The obligation -/

/-- The state with both counters of the Aging Unit started again from 0 (R113). -/
def State.agingRestarted (s : State) : State := { s with aging := Aging.reset }

/-- AGING_TICK delivers one tick to the part whose Aging Unit has started again. -/
theorem exec_agingTick {s : State} (h : s.phase = .operating) :
    exec .agingTick s = .next s.agingRestarted.deliverTick :=
  congrArg Host.Outcome.next (if_pos h)

/-- Settles O4: the delivery by its cases, on a state whose mode, sweep, owed count and request queue are those of s. -/
theorem agingTickActsByMode : Obligations.AgingTickActsByMode := by
  intro s hop
  refine ⟨s.agingRestarted.deliverTick, exec_agingTick hop, ?frame, fun hm => ?halted, fun hm hs hf => ?free,
    fun hbusy => ?owed⟩
  case frame => rw [State.deliverTick_aging]; exact deliverTick_frame s.agingRestarted
  case halted => rw [deliverTick_of_halted (s := s.agingRestarted) hm]; exact ⟨rfl, rfl⟩
  case free =>
    have hw : s.agingRestarted.flushWaiting = false := (flushWaiting_eq_false_iff s).mpr hf
    rw [deliverTick_of_free (s := s.agingRestarted) hm hs hw]
    exact ⟨rfl, rfl⟩
  case owed =>
    have howed : s.agingRestarted.deliverTick = s.agingRestarted.oweTick := by
      rcases hbusy with hm | ⟨hm, h⟩
      · exact deliverTick_of_flushing hm
      · exact deliverTick_of_busy hm (h.imp_right (flushWaiting_iff s).mpr)
    rw [howed]
    refine ⟨fun hroom => ?room, fun hfull => ?full⟩
    case room => rw [oweTick_of_room (s := s.agingRestarted) hroom]; exact ⟨rfl, rfl⟩
    case full => rw [oweTick_of_full (s := s.agingRestarted) hfull]; exact ⟨rfl, rfl⟩

end Sys2Proof.Machine
end

section
/-! PROOF. FETCH AGAIN, STATUS, NOTIFY and ACKNOWLEDGE (R177, R178, R180, R181): what SDO carries, what each
transaction leaves, and O9 and O10 from these. -/

namespace Sys2Proof.Machine

/-! ### What every transaction of an operating part does -/

/-- While the part operates, a transaction has its effect on the state whose SDO carries the port byte and its output. -/
theorem transaction_of_operating {s : State} (h : s.phase = .operating) (out : List Byte) (act : State → State) :
    s.transaction out act = act (s.withSdo (s.portByte :: out)) :=
  if_pos h

/-- The bytes clocked out of a block are the first ones of the block followed by FFh without end. -/
theorem shiftedOut_eq_take (block : List Byte) (clocked : Nat) :
    shiftedOut block clocked = (block ++ List.replicate clocked 0xFF).take clocked := by
  rw [shiftedOut, List.take_append, List.take_replicate, Nat.min_eq_left (Nat.sub_le _ _)]

/-! ### FETCH AGAIN and STATUS (R177, R178) -/

theorem againBlock_of_none {p : Port} (h : p.repeatBuf = none) : p.againBlock = emptyMarker := by
  rw [Port.againBlock, h]

theorem againBlock_of_some {p : Port} {r : Response} (h : p.repeatBuf = some r) : p.againBlock = r.frame := by
  rw [Port.againBlock, h]

/-- FETCH AGAIN shifts out its block and writes nothing but the record of SDO. -/
theorem exec_fetchAgain {s : State} (h : s.phase = .operating) (clocked : Nat) :
    exec (.fetchAgain clocked) s = .next (s.withSdo
      (s.portByte :: (s.port.againBlock ++ List.replicate clocked 0xFF).take clocked)) := by
  rw [← shiftedOut_eq_take]
  exact congrArg Host.Outcome.next (transaction_of_operating h _ fun t => t)

/-- STATUS shifts out the status block and writes nothing but the record of SDO. -/
theorem exec_status {s : State} (h : s.phase = .operating) (clocked : Nat) :
    exec (.status clocked) s = .next (s.withSdo
      (s.portByte :: (s.statusBlock ++ List.replicate clocked 0xFF).take clocked)) := by
  rw [← shiftedOut_eq_take]
  exact congrArg Host.Outcome.next (transaction_of_operating h _ fun t => t)

theorem statusBlock_length (s : State) : s.statusBlock.length = 14 := rfl

/-- Settles O9: each of the two shifts out its block, which for FETCH AGAIN is what the repeat buffer holds. -/
theorem fetchAgainAndStatusChangeNothing : Obligations.FetchAgainAndStatusChangeNothing := by
  intro s clocked hop
  refine ⟨fun hnone => ?marker, fun r hsome => ?again, statusBlock_length s, exec_status hop clocked⟩
  case marker => rw [exec_fetchAgain hop, againBlock_of_none hnone]; rfl
  case again => rw [exec_fetchAgain hop, againBlock_of_some hsome]; rfl

/-! ### NOTIFY and ACKNOWLEDGE (R180, R181) -/

/-- The state after a NOTIFY or an ACKNOWLEDGE: SDO carried the port byte, then FFh for each input byte, and the Host Port
is as given. -/
def State.afterInput (s : State) (input : List Byte) (p : Port) : State :=
  (s.withSdo (s.portByte :: List.replicate input.length 0xFF)).withPort p

theorem exec_notify_nil {s : State} (h : s.phase = .operating) :
    exec (.notify []) s = .next (s.afterInput [] s.port) :=
  congrArg Host.Outcome.next (transaction_of_operating h _ _)

/-- The first input byte gives the three enables, whatever follows it. -/
theorem exec_notify_cons {s : State} (h : s.phase = .operating) (b : Byte) (rest : List Byte) :
    exec (.notify (b :: rest)) s = .next (s.afterInput (b :: rest) { s.port with enables := b.setWidth 3 }) :=
  congrArg Host.Outcome.next (transaction_of_operating h _ _)

theorem exec_acknowledge_nil {s : State} (h : s.phase = .operating) :
    exec (.acknowledge []) s = .next (s.afterInput [] s.port) :=
  congrArg Host.Outcome.next (transaction_of_operating h _ _)

/-- The first input byte clears the flags it names, whatever follows it. -/
theorem exec_acknowledge_cons {s : State} (h : s.phase = .operating) (b : Byte) (rest : List Byte) :
    exec (.acknowledge (b :: rest)) s = .next (s.afterInput (b :: rest) { s.port with flags := s.port.flags &&& ~~~b }) :=
  congrArg Host.Outcome.next (transaction_of_operating h _ _)

/-- The enables taken from a byte are its bits 2..0. -/
theorem enables_getLsbD (b : Byte) {k : Nat} (h : k < 3) : (b.setWidth 3).getLsbD k = b.getLsbD k := by
  rw [BitVec.getLsbD_setWidth, decide_eq_true h, Bool.true_and]

/-- Clearing the flags that a byte names leaves the others as they stand. -/
theorem flags_cleared_getLsbD (flags b : Byte) (k : Nat) :
    (flags &&& ~~~b).getLsbD k = (flags.getLsbD k && !b.getLsbD k) := by
  rw [BitVec.getLsbD_and, BitVec.getLsbD_not]
  by_cases hk : k < 8
  · rw [decide_eq_true hk, Bool.true_and]
  · rw [BitVec.getLsbD_of_ge flags k (Nat.le_of_not_lt hk), Bool.false_and, Bool.false_and]

/-- Settles O10: no input byte leaves the Host Port, and a first one writes the enables or the flags, read bit by bit. -/
theorem notifyAndAcknowledge : Obligations.NotifyAndAcknowledge := by
  intro s rest b hop
  exact ⟨exec_notify_nil hop, exec_acknowledge_nil hop,
    ⟨_, exec_notify_cons hop b rest, rfl, fun _ hk => enables_getLsbD b hk⟩,
    ⟨_, exec_acknowledge_cons hop b rest, rfl, flags_cleared_getLsbD s.port.flags b⟩⟩

end Sys2Proof.Machine
end

section
/-! PROOF. The Address Pool (chapter 2): the four moves keep lists and map in agreement, allocation takes a FREE or HELD
address, and O30 and O32 from these. -/

namespace Sys2Proof.Machine

/-! ### Agreement of a pool in which one address has moved -/

/-- A pool agrees when it is one that agrees but for one address, which stands alone where its map entry says. -/
theorem agrees_of_moved {p q : Pool} {a : Address} {place : Place} (hp : p.agrees) (ha : assignable a = true)
    (hplace : place ≠ .invalid) (hfree : q.free.Nodup) (hhold : (q.hold.map (·.address)).Nodup)
    (hlen : q.hold.length ≤ 32)
    (hmap : ∀ b : Address, q.map[b.toFin] = if a = b then place else p.map[b.toFin])
    (hmemFree : ∀ b, b ∈ q.free ↔ if a = b then place = .free else b ∈ p.free)
    (hmemHold : ∀ b, b ∈ q.hold.map (·.address) ↔ if a = b then place = .held else b ∈ p.hold.map (·.address)) :
    q.agrees := by
  obtain ⟨_, _, _, pfree, pheld, pinvalid⟩ := hp
  refine ⟨hfree, hhold, hlen, fun b => ?_, fun b => ?_, fun b => ?_⟩
  all_goals by_cases hb : a = b
  · simp [hmap, hmemFree, hb]
  · rw [hmap, hmemFree, if_neg hb, if_neg hb, pfree]
  · rw [hmap, hmemHold, if_pos hb, if_pos hb]
  · rw [hmap, hmemHold, if_neg hb, if_neg hb, pheld]
  · subst hb; simp [hmap, hplace, ha]
  · rw [hmap, if_neg hb, pinvalid]

theorem map_set_getElem (map : Vector Place 256) (a b : Address) (place : Place) :
    (map.set a.toFin place)[b.toFin] = if a = b then place else map[b.toFin] :=
  mark_map ⟨map, [], []⟩ a b place

/-- The addresses of a hold list without an address are those of the list without it. -/
theorem map_address_filter (hold : List HoldEntry) (a : Address) :
    (hold.filter (·.address != a)).map (·.address) = (hold.map (·.address)).filter (· != a) := by
  rw [List.filter_map]; rfl

theorem mem_hold_filter {hold : List HoldEntry} {a b : Address} :
    b ∈ (hold.filter (·.address != a)).map (·.address) ↔ b ∈ hold.map (·.address) ∧ b ≠ a := by
  rw [map_address_filter, List.mem_filter, bne_iff_ne]

theorem hold_filter_nodup {hold : List HoldEntry} (a : Address) (h : (hold.map (·.address)).Nodup) :
    ((hold.filter (·.address != a)).map (·.address)).Nodup := by
  rw [map_address_filter]; exact h.filter _

theorem hold_filter_length {hold : List HoldEntry} (a : Address) (h : hold.length ≤ 32) :
    (hold.filter (·.address != a)).length ≤ 32 :=
  (List.length_filter_le _ _).trans h

/-- A list without an address stands when the address leaves it. -/
theorem free_filter_eq_self {free : List Address} {a : Address} (h : a ∉ free) : free.filter (· != a) = free :=
  List.filter_eq_self.mpr fun _ hx => bne_iff_ne.mpr fun hxa => h (hxa ▸ hx)

theorem hold_filter_eq_self {hold : List HoldEntry} {a : Address} (h : a ∉ hold.map (·.address)) :
    hold.filter (·.address != a) = hold :=
  List.filter_eq_self.mpr fun _ hx => bne_iff_ne.mpr fun hxa => h (hxa ▸ List.mem_map_of_mem hx)

/-! ### The four moves -/

theorem take_agrees {p : Pool} {a : Address} {place : Place} (hp : p.agrees) (ha : assignable a = true)
    (hfree : place ≠ .free) (hheld : place ≠ .held) (hinvalid : place ≠ .invalid) : (p.take a place).agrees := by
  rw [take_eq p place ha]
  obtain ⟨nfree, nhold, hlen, _⟩ := id hp
  refine agrees_of_moved hp ha hinvalid (nfree.filter _) (hold_filter_nodup a nhold) (hold_filter_length a hlen)
    (fun b => map_set_getElem _ _ _ _) (fun b => ?_) (fun b => ?_)
  · by_cases hb : a = b
    · simp [hb, hfree]
    · simp [hb, Ne.symm hb]
  · rw [mem_hold_filter]
    by_cases hb : a = b
    · simp [hb, hheld]
    · simp [hb, Ne.symm hb]

theorem toHead_agrees {p : Pool} {a : Address} (hp : p.agrees) (ha : assignable a = true) : (p.toHead a).agrees := by
  rw [toHead_eq p ha]
  obtain ⟨nfree, nhold, hlen, _⟩ := id hp
  refine agrees_of_moved hp ha (place := .free) (by decide) ?_ (hold_filter_nodup a nhold) (hold_filter_length a hlen)
    (fun b => map_set_getElem _ _ _ _) (fun b => ?_) (fun b => ?_)
  · exact List.nodup_cons.mpr ⟨by simp, nfree.filter _⟩
  · by_cases hb : a = b
    · simp [hb]
    · simp [hb, Ne.symm hb]
  · rw [mem_hold_filter]
    by_cases hb : a = b
    · simp [hb]
    · simp [hb, Ne.symm hb]

theorem toTail_agrees {p : Pool} {a : Address} (hp : p.agrees) (ha : assignable a = true) : (p.toTail a).agrees := by
  rw [toTail_eq p ha]
  obtain ⟨nfree, nhold, hlen, _⟩ := id hp
  refine agrees_of_moved hp ha (place := .free) (by decide) ?_ (hold_filter_nodup a nhold) (hold_filter_length a hlen)
    (fun b => map_set_getElem _ _ _ _) (fun b => ?_) (fun b => ?_)
  · exact (nfree.filter _).append (List.nodup_singleton a) (by simp)
  · by_cases hb : a = b
    · simp [hb]
    · simp [hb, Ne.symm hb]
  · rw [mem_hold_filter]
    by_cases hb : a = b
    · simp [hb]
    · simp [hb, Ne.symm hb]

/-- A held address is assignable, and it is not on the free list. -/
theorem held_entry {p : Pool} {b : Address} (hp : p.agrees) (hb : b ∈ p.hold.map (·.address)) :
    assignable b = true ∧ b ∉ p.free := by
  obtain ⟨_, _, _, pfree, pheld, pinvalid⟩ := hp
  have hheld := (pheld b).mpr hb
  refine ⟨Bool.of_not_eq_false fun h => ?_, fun h => ?_⟩
  · rw [(pinvalid b).mpr h] at hheld; cases hheld
  · rw [(pfree b).mpr h] at hheld; cases hheld

/-- A hold list that is not full takes the address at its tail. -/
theorem toHold_eq_of_room {p : Pool} {a : Address} {period : Byte} (former : Option ModuleId) (ha : assignable a = true)
    (hperiod : period ≠ 0) (hroom : (p.hold.filter (·.address != a)).length < 32) :
    p.toHold period a former =
      { map := p.map.set a.toFin .held
        free := p.free.filter (· != a)
        hold := p.hold.filter (·.address != a) ++ [⟨a, former, period⟩] } := by
  have hq : (p.detach a).makeHoldRoom = p.detach a := by
    unfold Pool.makeHoldRoom
    split
    · rfl
    · exact if_neg (Nat.not_le.mpr hroom)
  rw [Pool.toHold, if_neg hperiod, if_pos ha, hq]
  rfl

/-- A full hold list first releases its oldest entry to the tail of the free list. -/
theorem toHold_eq_of_full {p : Pool} {a : Address} {period : Byte} {e : HoldEntry} {rest : List HoldEntry}
    (former : Option ModuleId) (hp : p.agrees) (ha : assignable a = true) (hperiod : period ≠ 0)
    (hhold : p.hold.filter (·.address != a) = e :: rest) (hfull : rest.length = 31) :
    p.toHold period a former =
      { map := (p.map.set e.address.toFin .free).set a.toFin .held
        free := p.free.filter (· != a) ++ [e.address]
        hold := rest ++ [⟨a, former, period⟩] } := by
  have hmem : e.address ∈ (p.hold.filter (·.address != a)).map (·.address) := by rw [hhold]; simp
  obtain ⟨he, hnotFree⟩ := held_entry hp (mem_hold_filter.mp hmem).1
  have hnotRest : e.address ∉ rest.map (·.address) := by
    have := hold_filter_nodup a hp.2.1
    rw [hhold, List.map_cons] at this
    exact (List.nodup_cons.mp this).1
  have hrest := hold_filter_eq_self hnotRest
  have hfree := free_filter_eq_self (free := p.free.filter (· != a)) (a := e.address) fun h => hnotFree (List.mem_filter.mp h).1
  have hq : (p.detach a).makeHoldRoom =
      { map := p.map.set e.address.toFin .free, free := p.free.filter (· != a) ++ [e.address], hold := rest } := by
    have hd : (p.detach a).hold = e :: rest := hhold
    simp only [Pool.makeHoldRoom, hd, List.length_cons, hfull, Config.holdCapacity, Nat.le_refl, if_true]
    rw [toTail_eq _ he]
    simp only [detach_map, detach_free, hrest, hfree]
  rw [Pool.toHold, if_neg hperiod, if_pos ha, hq]
  rfl

theorem toHold_zero (p : Pool) (a : Address) (former : Option ModuleId) : p.toHold 0 a former = p.toTail a := rfl

/-- What a hold list without the address can be: not full, or full with an oldest entry. -/
theorem hold_room_or_full {p : Pool} (a : Address) (hp : p.agrees) :
    (p.hold.filter (·.address != a)).length < 32
      ∨ ∃ e rest, p.hold.filter (·.address != a) = e :: rest ∧ rest.length = 31 := by
  have hlen := hold_filter_length a hp.2.2.1
  cases h : p.hold.filter (·.address != a) with
  | nil => left; simp
  | cons e rest =>
    rw [h, List.length_cons] at hlen
    by_cases hr : rest.length = 31
    · exact .inr ⟨e, rest, rfl, hr⟩
    · left; rw [List.length_cons]; omega

theorem toHold_agrees {p : Pool} {a : Address} (period : Byte) (former : Option ModuleId) (hp : p.agrees)
    (ha : assignable a = true) : (p.toHold period a former).agrees := by
  by_cases hperiod : period = 0
  · subst hperiod; exact toTail_agrees hp ha
  obtain ⟨nfree, nhold, hlen, _⟩ := id hp
  rcases hold_room_or_full a hp with hroom | ⟨e, rest, hhold, hfull⟩
  · rw [toHold_eq_of_room former ha hperiod hroom]
    refine agrees_of_moved hp ha (place := .held) (by decide) (nfree.filter _) ?_ ?_
      (fun b => map_set_getElem _ _ _ _) (fun b => ?_) (fun b => ?_)
    · rw [List.map_append]
      refine (hold_filter_nodup a nhold).append (by simp) ?_
      rw [map_address_filter]; simp
    · simpa using hroom
    · by_cases hb : a = b
      · simp [hb]
      · simp [hb, Ne.symm hb]
    · rw [List.map_append, List.mem_append, mem_hold_filter]
      by_cases hb : a = b
      · simp [hb]
      · simp [hb, Ne.symm hb]
  · have hmem : e.address ∈ (p.hold.filter (·.address != a)).map (·.address) := by rw [hhold]; simp
    obtain ⟨hmem, hea⟩ := mem_hold_filter.mp hmem
    obtain ⟨he, hnotFree⟩ := held_entry hp hmem
    have hnodup := hold_filter_nodup a nhold
    rw [hhold, List.map_cons, List.nodup_cons] at hnodup
    have hrestMem : ∀ b, b ∈ rest.map (·.address) ↔ (b ∈ p.hold.map (·.address) ∧ b ≠ a) ∧ b ≠ e.address := by
      intro b
      rw [← mem_hold_filter, hhold, List.map_cons, List.mem_cons]
      refine ⟨fun h => ⟨.inr h, fun hb => hnodup.1 (hb ▸ h)⟩, fun h => h.1.resolve_left h.2⟩
    -- the oldest entry released, the pool agrees; then the address moves to the tail of the hold list
    have hagree : ((p.take a .reserved).toTail e.address).agrees :=
      toTail_agrees (take_agrees hp ha (by decide) (by decide) (by decide)) he
    rw [toHold_eq_of_full former hp ha hperiod hhold hfull]
    rw [toTail_eq _ he, take_eq _ _ ha] at hagree
    refine agrees_of_moved hagree ha (place := .held) (by decide) ?_ ?_ ?_ (fun b => ?_) (fun b => ?_) (fun b => ?_)
    · exact (nfree.filter _).append (List.nodup_singleton _) (by simp [hnotFree])
    · rw [List.map_append]
      exact hnodup.2.append (by simp) (by simp [hrestMem])
    · simp [hfull]
    · simp only [map_set_getElem]
      split <;> simp_all
    · simp only [List.mem_append, List.mem_filter, List.mem_singleton, bne_iff_ne]
      split
      · next hb => subst hb; simp [Ne.symm hea]
      · next hb => by_cases hbe : b = e.address <;> simp [hbe]
    · rw [List.map_append, List.mem_append, hrestMem, mem_hold_filter, mem_hold_filter]
      by_cases hb : a = b
      · simp [hb]
      · simp [hb, Ne.symm hb]

/-- Settles O30: each move by its explicit form and its agreement. -/
theorem poolMovesKeepAgreement : Obligations.PoolMovesKeepAgreement := by
  intro p a hp hlow hhigh
  have ha : assignable a = true := by rw [assignable_iff]; bv_omega
  refine ⟨fun place hf hh hi => ⟨take_agrees hp ha hf hh hi, take_eq p place ha⟩, toHead_agrees hp ha, toHead_eq p ha,
    toTail_agrees hp ha, toTail_eq p ha, fun period former => ⟨toHold_agrees period former hp ha, ?_,
      toHold_eq_of_room former ha, fun e rest hperiod => toHold_eq_of_full former hp ha hperiod⟩⟩
  rintro rfl
  exact toHold_zero p a former

/-! ### Allocation (R40 to R42) -/

theorem inRange_iff {low high a : Address} : inRange low high a = true ↔ low ≤ a ∧ a ≤ high := by
  simp [inRange]

theorem placeOf_eq_map {p : Pool} (hp : p.agrees) (a : Address) : p.placeOf a = p.map[a.toFin] := by
  obtain ⟨_, _, _, _, _, pinvalid⟩ := hp
  cases h : assignable a with
  | true => exact placeOf_of_assignable p h
  | false => rw [placeOf_of_not_assignable p (by simp [h]), (pinvalid a).mpr h]

theorem formerlyOf_iff {p : Pool} {a : Address} {id : ModuleId} :
    p.formerlyOf a id = true ↔ ∃ e ∈ p.hold, e.address = a ∧ e.former = some id := by
  simp [Pool.formerlyOf]

/-- The preferred address is taken when it is FREE and in range, or HELD with the module's ID as former ID. -/
theorem allocateFirst_of_preferred {p : Pool} {low high pref : Address} {id : ModuleId} (hp : p.agrees)
    (h : (pref ∈ p.free ∧ inRange low high pref = true) ∨ p.formerlyOf pref id = true) :
    p.allocateFirst low high id pref = some pref := by
  have ⟨_, _, _, pfree, pheld, _⟩ := hp
  unfold Pool.allocateFirst
  rw [placeOf_eq_map hp]
  split
  · rfl
  · next hf =>
    rcases h with ⟨hmem, hr⟩ | hformer
    · exact absurd ⟨(pfree _).mpr hmem, hr⟩ hf
    · obtain ⟨e, he, hea, _⟩ := formerlyOf_iff.mp hformer
      exact if_pos ⟨(pheld _).mpr (hea ▸ List.mem_map_of_mem he), hformer⟩

theorem allocateFirst_of_not_preferred {p : Pool} {low high pref : Address} {id : ModuleId} (hp : p.agrees)
    (hfree : ¬(pref ∈ p.free ∧ inRange low high pref = true)) (hformer : ¬p.formerlyOf pref id = true) :
    p.allocateFirst low high id pref = p.allocateFromLists low high fun _ => false := by
  have ⟨_, _, _, pfree, _⟩ := hp
  rw [Pool.allocateFirst, placeOf_eq_map hp, if_neg fun h => hfree ⟨(pfree _).mp h.1, h.2⟩, if_neg fun h => hformer h.2]

theorem passed_over {r k : Bool} (h : r = true → k = true) : (!(r && !k)) = true := by
  revert h; cases r <;> cases k <;> simp

/-- An entry of the free list with none before it that fits is taken. -/
theorem allocateFromLists_of_free {p : Pool} {low high a : Address} {skip : Address → Bool} {before after : List Address}
    (h : p.free = before ++ a :: after) (ha : inRange low high a = true) (hskip : skip a = false)
    (hbefore : ∀ b ∈ before, inRange low high b = true → skip b = true) :
    p.allocateFromLists low high skip = some a := by
  have hfind : p.free.find? (fun a => inRange low high a && !skip a) = some a := by
    rw [List.find?_eq_some_iff_append]
    exact ⟨by simp [ha, hskip], before, after, h, fun b hb => passed_over (hbefore b hb)⟩
  rw [Pool.allocateFromLists, hfind]; rfl

/-- With nothing on the free list that fits, an entry of the hold list with none before it that fits is taken. -/
theorem allocateFromLists_of_hold {p : Pool} {low high : Address} {skip : Address → Bool} {e : HoldEntry}
    {before after : List HoldEntry} (hfree : ∀ b ∈ p.free, inRange low high b = true → skip b = true)
    (h : p.hold = before ++ e :: after) (he : inRange low high e.address = true) (hskip : skip e.address = false)
    (hbefore : ∀ b ∈ before, inRange low high b.address = true → skip b.address = true) :
    p.allocateFromLists low high skip = some e.address := by
  have hnone : p.free.find? (fun a => inRange low high a && !skip a) = none := by
    rw [List.find?_eq_none]
    exact fun b hb => by simpa using hfree b hb
  have hfind : p.hold.find? (fun e => inRange low high e.address && !skip e.address) = some e := by
    rw [List.find?_eq_some_iff_append]
    exact ⟨by simp [he, hskip], before, after, h, fun b hb => passed_over (hbefore b hb)⟩
  rw [Pool.allocateFromLists, hnone, hfind]; rfl

theorem allocateFromLists_eq_none {p : Pool} {low high : Address} {skip : Address → Bool}
    (hfree : ∀ b ∈ p.free, inRange low high b = true → skip b = true)
    (hhold : ∀ b ∈ p.hold, inRange low high b.address = true → skip b.address = true) :
    p.allocateFromLists low high skip = none := by
  have hnone : p.free.find? (fun a => inRange low high a && !skip a) = none :=
    List.find?_eq_none.mpr fun b hb => by simpa using hfree b hb
  have hnone' : p.hold.find? (fun e => inRange low high e.address && !skip e.address) = none :=
    List.find?_eq_none.mpr fun b hb => by simpa using hhold b hb
  rw [Pool.allocateFromLists, hnone, hnone']; rfl

/-- What the two list steps yield is FREE or HELD, and not passed over. -/
theorem allocateFromLists_place {p : Pool} {low high a : Address} {skip : Address → Bool} (hp : p.agrees)
    (h : p.allocateFromLists low high skip = some a) :
    (p.map[a.toFin] = .free ∨ p.map[a.toFin] = .held) ∧ skip a = false := by
  obtain ⟨_, _, _, pfree, pheld, _⟩ := hp
  rw [Pool.allocateFromLists, Option.or_eq_some_iff, Option.map_eq_some_iff] at h
  rcases h with h | ⟨_, e, he, rfl⟩
  · have hfit := List.find?_some h
    simp only [Bool.and_eq_true, Bool.not_eq_true'] at hfit
    exact ⟨.inl ((pfree a).mpr (List.mem_of_find?_eq_some h)), hfit.2⟩
  · have hfit := List.find?_some he
    simp only [Bool.and_eq_true, Bool.not_eq_true'] at hfit
    exact ⟨.inr ((pheld _).mpr (List.mem_map_of_mem (List.mem_of_find?_eq_some he))), hfit.2⟩

theorem allocateFirst_place {p : Pool} {low high pref a : Address} {id : ModuleId} (hp : p.agrees)
    (h : p.allocateFirst low high id pref = some a) : p.map[a.toFin] = .free ∨ p.map[a.toFin] = .held := by
  unfold Pool.allocateFirst at h
  rw [placeOf_eq_map hp] at h
  split at h
  · next hf => cases h; exact .inl hf.1
  · split at h
    · next hh => cases h; exact .inr hh.1
    · exact (allocateFromLists_place hp h).1

/-- Settles O32: the preferred address by its two conditions, then the two lists in turn. -/
theorem allocationTakesFirstInRange : Obligations.AllocationTakesFirstInRange := by
  intro p hp low high id pref declined fits preferredFree formerlyHeld
  have hfits : ∀ {a}, inRange low high a = true ↔ fits a := inRange_iff
  have hpref : (pref ∈ p.free ∧ inRange low high pref = true) ↔ preferredFree := by rw [hfits]
  have hformer : p.formerlyOf pref id = true ↔ formerlyHeld := formerlyOf_iff
  refine ⟨fun h => allocateFirst_of_preferred hp (by rwa [hpref, hformer]), fun hnp hnh => ?_,
    fun before a after h ha hne hb => ?_, fun before e after hf h he hne hb => ?_, fun hf hh => ?_, fun a h => ?_⟩
  · rw [allocateFirst_of_not_preferred hp (by rwa [hpref]) (by rwa [hformer])]
    refine ⟨fun before a after h ha hb => ?_, fun before e after hf h he hb => ?_, fun hf hh => ?_⟩
    · exact allocateFromLists_of_free h (hfits.mpr ha) rfl fun b hm hr => absurd (hfits.mp hr) (hb b hm)
    · exact allocateFromLists_of_hold (fun b hm hr => absurd (hfits.mp hr) (hf b hm)) h (hfits.mpr he) rfl
        fun b hm hr => absurd (hfits.mp hr) (hb b hm)
    · exact allocateFromLists_eq_none (fun b hm hr => absurd (hfits.mp hr) (hf b hm))
        fun b hm hr => absurd (hfits.mp hr) (hh b hm)
  · exact allocateFromLists_of_free h (hfits.mpr ha) (by simpa using hne)
      fun b hm hr => by simpa using hb b hm (hfits.mp hr)
  · exact allocateFromLists_of_hold (fun b hm hr => by simpa using hf b hm (hfits.mp hr)) h (hfits.mpr he)
      (by simpa using hne) fun b hm hr => by simpa using hb b hm (hfits.mp hr)
  · exact allocateFromLists_eq_none (fun b hm hr => by simpa using hf b hm (hfits.mp hr))
      fun b hm hr => by simpa using hh b hm (hfits.mp hr)
  · exact h.elim (allocateFirst_place hp) fun h => (allocateFromLists_place hp h).1

end Sys2Proof.Machine
end

section
/-! PROOF. The hold list counts down (R37, R117), what the pool's moves do to the addresses that records own, and O46. -/

namespace Sys2Proof.Machine

/-! ### The expired entries go to the tail of the free list -/

/-- Addresses that stand on no list enter the free list at its tail, in order. -/
theorem foldl_toTail {out : List Address} {p : Pool} (hout : out.Nodup)
    (h : ∀ a ∈ out, assignable a = true ∧ a ∉ p.free ∧ a ∉ p.hold.map (·.address)) :
    (out.foldl Pool.toTail p).free = p.free ++ out ∧ (out.foldl Pool.toTail p).hold = p.hold
      ∧ ∀ b : Address, (out.foldl Pool.toTail p).map[b.toFin] = if b ∈ out then .free else p.map[b.toFin] := by
  induction out generalizing p with
  | nil => simp
  | cons a out ih =>
    obtain ⟨ha, hfree, hhold⟩ := h a (by simp)
    obtain ⟨hnot, hout⟩ := List.nodup_cons.mp hout
    have hq : p.toTail a = { map := p.map.set a.toFin .free, free := p.free ++ [a], hold := p.hold } := by
      rw [toTail_eq p ha, free_filter_eq_self hfree, hold_filter_eq_self hhold]
    obtain ⟨ih1, ih2, ih3⟩ := ih (p := p.toTail a) hout fun b hb => by
      obtain ⟨hb1, hb2, hb3⟩ := h b (by simp [hb])
      refine ⟨hb1, ?_, ?_⟩
      · rw [hq, List.mem_append, List.mem_singleton]
        rintro (h | rfl)
        · exact hb2 h
        · exact hnot hb
      · rw [hq]; exact hb3
    refine ⟨?_, ?_, fun b => ?_⟩
    · rw [List.foldl_cons, ih1, hq]; simp
    · rw [List.foldl_cons, ih2, hq]
    · rw [List.foldl_cons, ih3, hq, map_set_getElem]
      by_cases hb : b ∈ out
      · simp [hb]
      · by_cases hba : a = b <;> simp [hb, hba, eq_comm]

/-! ### One tick of the hold list -/

/-- The hold list with one tick off every entry above 0. -/
def Pool.counted (p : Pool) : List HoldEntry := p.hold.map HoldEntry.countDown

theorem HoldEntry.countDown_address (e : HoldEntry) : e.countDown.address = e.address := by
  unfold HoldEntry.countDown; split <;> rfl

theorem counted_addresses (p : Pool) : p.counted.map (·.address) = p.hold.map (·.address) := by
  simp [Pool.counted, HoldEntry.countDown_address]

/-- The expired entries at the head and the entries behind them are the hold list, in order. -/
theorem expired_append (p : Pool) :
    expiredHead p.counted ++ (p.counted.dropWhile (·.ticks == 0)).map (·.address) = p.hold.map (·.address) := by
  rw [expiredHead, ← List.map_append, List.takeWhile_append_dropWhile, counted_addresses]

theorem expired_facts {p : Pool} (hp : p.agrees) :
    (expiredHead p.counted).Nodup ∧ ((p.counted.dropWhile (·.ticks == 0)).map (·.address)).Nodup
      ∧ ∀ b ∈ expiredHead p.counted, b ∉ (p.counted.dropWhile (·.ticks == 0)).map (·.address) := by
  have h := hp.2.1
  rw [← expired_append, List.nodup_append] at h
  exact ⟨h.1, h.2.1, fun b hb hb' => h.2.2 b hb b hb' rfl⟩

/-- One tick of the hold list: its lists and its map. -/
theorem countDown_parts {p : Pool} (hp : p.agrees) :
    p.countDown.free = p.free ++ expiredHead p.counted
      ∧ p.countDown.hold = p.counted.dropWhile (·.ticks == 0)
      ∧ ∀ b : Address, p.countDown.map[b.toFin] = if b ∈ expiredHead p.counted then .free else p.map[b.toFin] := by
  obtain ⟨hout, _, hdisjoint⟩ := expired_facts hp
  refine foldl_toTail (p := { p with hold := p.counted.dropWhile (·.ticks == 0) }) hout fun b hb => ?_
  have hmem : b ∈ p.hold.map (·.address) := by rw [← expired_append]; exact List.mem_append_left _ hb
  exact ⟨(held_entry hp hmem).1, (held_entry hp hmem).2, hdisjoint b hb⟩

theorem countDown_agrees {p : Pool} (hp : p.agrees) : p.countDown.agrees := by
  obtain ⟨hfree, hhold, hmap⟩ := countDown_parts hp
  obtain ⟨hout, hrest, hdisjoint⟩ := expired_facts hp
  have happend : ∀ b, b ∈ p.hold.map (·.address)
      ↔ b ∈ expiredHead p.counted ∨ b ∈ (p.counted.dropWhile (·.ticks == 0)).map (·.address) := fun b => by
    rw [← expired_append, List.mem_append]
  have hnotFree : ∀ b ∈ expiredHead p.counted, assignable b = true ∧ b ∉ p.free := fun b hb =>
    held_entry hp ((happend b).mpr (.inl hb))
  obtain ⟨nfree, nhold, hlen, pfree, pheld, pinvalid⟩ := hp
  refine ⟨?_, by rwa [hhold], ?_, fun b => ?_, fun b => ?_, fun b => ?_⟩
  · rw [hfree]
    exact nfree.append hout fun b hb hb' => (hnotFree b hb').2 hb
  · rw [hhold]
    have := (List.dropWhile_sublist (l := p.counted) (·.ticks == 0)).length_le
    rw [Pool.counted, List.length_map] at this
    exact this.trans hlen
  · rw [hmap, hfree, List.mem_append]
    split
    · next hb => simp [hb]
    · next hb => rw [pfree, or_iff_left hb]
  · rw [hmap, hhold]
    split
    · next hb => simp only [reduceCtorEq, false_iff]; exact hdisjoint b hb
    · next hb => rw [pheld, happend, or_iff_right hb]
  · rw [hmap]
    split
    · next hb => simp [(hnotFree b hb).1]
    · next hb => exact pinvalid b

/-! ### The obligation -/

theorem counted_eq (p : Pool) :
    p.counted = p.hold.map fun e => { e with ticks := if e.ticks = 0 then 0 else e.ticks - 1 } := by
  refine List.map_congr_left fun e _ => ?_
  unfold HoldEntry.countDown
  split
  · next h => rw [← h]
  · rfl

theorem headExpires_of {p : Pool} {e : HoldEntry} {rest : List HoldEntry} (h : p.hold = e :: rest)
    (he : e.ticks = 0 ∨ e.ticks = 1) : p.headExpires = true := by
  rcases he with he | he <;> simp [Pool.headExpires, h, he]

/-- Settles O46: the granted step counts the hold list down, and its expiry row is the same step. -/
theorem holdListCountsDown : Obligations.HoldListCountsDown := by
  intro s hp hg counted out
  have hcounted : s.pool.counted = counted := counted_eq s.pool
  have hout : expiredHead s.pool.counted = out := by rw [hcounted]; rfl
  obtain ⟨hfree, hhold, hmap⟩ := countDown_parts hp
  have hstep : exec .holdListStep s = .next (s.pointTo .timer).holdListStep := by
    simp [exec, execHoldListStep, hg]
  refine ⟨_, hstep, fun e rest he hticks => ?_, rfl, hhold.trans (by rw [hcounted]), hfree.trans (by rw [hout]),
    fun a => (hmap a).trans (by rw [hout])⟩
  simp [exec, execHoldEntryExpiry, hg, headExpires_of he hticks]

/-! ### The addresses that records own -/

/-- A place that names a record. -/
def Place.isOwned : Place → Bool
  | .offered _ => true
  | .bound _ => true
  | _ => false

/-- Between two pools one address is taken from whatever record owned it, and every other address is owned as before. -/
def Pool.Releases (p q : Pool) (a : Address) : Prop :=
  ∀ (b : Address) (x : Place), x.isOwned = true → (q.map[b.toFin] = x ↔ a ≠ b ∧ p.map[b.toFin] = x)

theorem releases_of_set {p q : Pool} {a : Address} {place : Place} (hplace : place.isOwned = false)
    (hmap : q.map = p.map.set a.toFin place) : p.Releases q a := by
  intro b x hx
  rw [hmap, map_set_getElem]
  split
  · next hb => simp only [hb, ne_eq, not_true_eq_false, false_and, iff_false]; rintro rfl; simp [hplace] at hx
  · next hb => simp [hb]

theorem toHead_releases (p : Pool) {a : Address} (ha : assignable a = true) : p.Releases (p.toHead a) a :=
  releases_of_set (place := .free) rfl (by rw [toHead_eq p ha])

theorem toTail_releases (p : Pool) {a : Address} (ha : assignable a = true) : p.Releases (p.toTail a) a :=
  releases_of_set (place := .free) rfl (by rw [toTail_eq p ha])

/-- The oldest entry that a full hold list gives up was owned by no record. -/
theorem toHold_releases {p : Pool} {a : Address} (period : Byte) (former : Option ModuleId) (hp : p.agrees)
    (ha : assignable a = true) : p.Releases (p.toHold period a former) a := by
  by_cases hperiod : period = 0
  · subst hperiod; exact toTail_releases p ha
  rcases hold_room_or_full a hp with hroom | ⟨e, rest, hhold, hfull⟩
  · exact releases_of_set (place := .held) rfl (by rw [toHold_eq_of_room former ha hperiod hroom])
  · have hmem : e.address ∈ (p.hold.filter (·.address != a)).map (·.address) := by rw [hhold]; simp
    have hheld : p.map[e.address.toFin] = .held := (hp.2.2.2.2.1 _).mpr (mem_hold_filter.mp hmem).1
    have he : Pool.Releases p { p with map := p.map.set e.address.toFin .free } e.address :=
      releases_of_set (place := .free) rfl rfl
    have ha : Pool.Releases { p with map := p.map.set e.address.toFin .free } (p.toHold period a former) a :=
      releases_of_set (place := .held) rfl (by rw [toHold_eq_of_full former hp ha hperiod hhold hfull])
    intro b x hx
    rw [ha b x hx, he b x hx]
    refine and_congr_right fun _ => and_iff_right_of_imp fun h hb => ?_
    rw [← h, ← hb, hheld] at hx
    cases hx

theorem countDown_owned {p : Pool} (hp : p.agrees) (b : Address) {x : Place} (hx : x.isOwned = true) :
    p.countDown.map[b.toFin] = x ↔ p.map[b.toFin] = x := by
  rw [(countDown_parts hp).2.2]
  split
  · next hb =>
    have hmem : b ∈ p.hold.map (·.address) := by rw [← expired_append]; exact List.mem_append_left _ hb
    rw [(hp.2.2.2.2.1 b).mpr hmem]
    constructor <;> rintro rfl <;> cases hx
  · rfl

theorem take_map (p : Pool) {a : Address} (place : Place) (ha : assignable a = true) (b : Address) :
    (p.take a place).map[b.toFin] = if a = b then place else p.map[b.toFin] := by
  rw [take_eq p place ha]; exact map_set_getElem _ _ _ _

end Sys2Proof.Machine
end

section
/-! PROOF. Complete records (R3, R4, R12): which fields a record of each class holds, and the amendments that keep it
complete. -/

namespace Sys2Proof.Machine

/-! ### The fields of each class of record -/

/-- The fields that every DYNAMIC and every STATIC record holds. -/
abbrev Record.hasTerms (r : Record) : Prop :=
  r.id ≠ none ∧ r.generation ≠ 0 ∧ r.address ≠ none ∧ r.cls ≠ none ∧ r.lease ≠ none

theorem live_iff {r : Record} : r.live = true ↔ r.state = .active ∨ r.state = .stale := by
  simp [Record.live]

theorem bound_iff {r : Record} : r.bound = true ↔ r.kind = .static ∨ (r.kind = .dynamic ∧ r.live = true) := by
  simp [Record.bound]

theorem counted_eq_bound (r : Record) : r.counted = r.bound := rfl

theorem complete_iff_of_live {r : Record} (h : r.live = true) :
    r.complete ↔ (r.kind = .dynamic ∨ r.kind = .static) ∧ r.hasTerms ∧ r.segment ≠ none ∧ r.slot = none := by
  have hs := live_iff.mp h
  cases hk : r.kind <;> rcases hs with hs | hs <;>
    simp [Record.complete, Record.allowedPair, Record.counted, Record.live, hk, hs] <;> tauto

theorem complete_iff_of_staticDormant {r : Record} (hk : r.kind = .static) (hs : r.state = .dormant) :
    r.complete ↔ r.hasTerms ∧ r.slot = none ∧ r.ticks = 0 := by
  simp [Record.complete, Record.allowedPair, Record.counted, Record.live, hk, hs]; tauto

theorem complete_iff_of_denied {r : Record} (hk : r.kind = .denied) :
    r.complete ↔ r.state = .dormant ∧ r.id ≠ none ∧ r.generation ≠ 0 ∧ r.address = none ∧ r.segment = none
      ∧ r.cls = none ∧ r.lease = none ∧ r.rule = none ∧ r.slot = none ∧ r.groups = 0 ∧ r.ticks = 0 := by
  cases hs : r.state <;> simp [Record.complete, Record.allowedPair, Record.counted, Record.live, hk, hs]
  tauto

theorem complete_iff_of_pending {r : Record} (hs : r.state = .pending) :
    r.complete ↔ r.kind = .dynamic ∧ r.hasTerms ∧ r.segment ≠ none ∧ r.slot ≠ none ∧ r.groups = 0 ∧ r.ticks = 0 := by
  cases hk : r.kind <;> simp [Record.complete, Record.allowedPair, Record.counted, Record.live, hk, hs]
  tauto

theorem complete_iff_of_retired {r : Record} (hs : r.state = .retired) :
    r.complete ↔ r.kind = .dynamic ∧ r.hasTerms ∧ r.segment ≠ none ∧ r.slot = none ∧ r.groups = 0 ∧ r.ticks = 0
      ∧ r.attention ≠ 0 := by
  cases hk : r.kind <;> simp [Record.complete, Record.allowedPair, Record.counted, Record.live, hk, hs]
  tauto

theorem complete_empty : Record.empty.complete := by decide

/-- A DORMANT record is STATIC or DENIED. -/
theorem kind_of_dormant {r : Record} (h : r.complete) (hs : r.state = .dormant) : r.kind = .static ∨ r.kind = .denied := by
  have := h.1
  cases hk : r.kind <;> simp [Record.allowedPair, hk, hs] at this ⊢

/-- The generation that a change gives leaves a record complete. -/
theorem changed_complete {old new : Record} (hnew : new.complete) (hs : new.state ≠ .empty) (hg : old.generation ≠ 0) :
    (old.changed new).complete := by
  have hgen : (old.changed new).generation ≠ 0 := by
    simp only [changed_eq]; split
    · exact hg
    · exact nextGeneration_ne_zero _
  obtain ⟨h1, h2, h3, h4, h5, h6, h7, h8, h9, h10⟩ := hnew
  exact ⟨h1, fun h => absurd h hs, fun h => ⟨(h3 h).1, hgen⟩, h4, h5, h6, h7, h8, h9, h10⟩

end Sys2Proof.Machine
end

section
/-! PROOF. What a command can do to the tables: the parts of the state that the agreements of the tables speak of, and one
relation that says once which changes of them a step is made of. -/

namespace Sys2Proof.Machine

/-! ### The tables -/

/-- The parts of the state that the agreements of counts, tables, settings, leases and expiries speak of. -/
structure Core where
  records : Vector Record 256
  attnCount : Nat
  members : Vector Nat 16
  pool : Pool
  slots : Vector (Option Claim) 8
  due : List SlotNo
  ranOut : List SlotNo
  config : Params
  rules : Vector Rule 16

def State.core (s : State) : Core where
  records := s.records
  attnCount := s.engine.attnCount
  members := s.groups.map (·.members)
  pool := s.pool
  slots := s.slots
  due := s.due
  ranOut := s.ranOut
  config := s.config
  rules := s.rules

/-! ### Amendments -/

/-- A record takes a new content and stays what it is: with its ID and its address, as findable and as bound as before, and
PENDING for the same claim if it was PENDING. -/
structure Amends (c : Params) (old new : Record) : Prop where
  complete : old.complete → new.complete
  id : new.id = old.id
  address : new.address = old.address
  bound : old.complete → new.bound = old.bound
  pending : (old.state ≠ .pending ∧ new.state ≠ .pending)
    ∨ (old.state = .pending ∧ new.state = .pending ∧ new.slot = old.slot ∧ new.segment = old.segment)
  findable : old.complete → new.findable = old.findable
  wasNotEmpty : old.complete → old.state ≠ .empty
  lease : old.lease ≠ some 0 → new.lease ≠ some 0
  ticks : c.staleWindow ≠ 0 → old.complete → old.lease ≠ some 0 → (old.live = true → old.ticks ≠ 0) →
    new.live = true → new.ticks ≠ 0

/-- The generation that a change gives makes no difference to an amendment. -/
theorem Amends.changed {c : Params} {old new : Record} (h : Amends c old new) (hs : new.state ≠ .empty) :
    Amends c old (old.changed new) where
  complete hold := changed_complete (h.complete hold) hs (hold.2.2.1 (h.wasNotEmpty hold)).2
  id := h.id
  address := h.address
  bound := h.bound
  pending := h.pending
  findable := h.findable
  wasNotEmpty := h.wasNotEmpty
  lease := h.lease
  ticks := h.ticks

/-! ### The changes of the tables -/

/-- One change of the tables, with what the model knows where it makes the change. -/
inductive TableStep (s : State) : State → Prop
  /-- Nothing of the tables changes. -/
  | quiet {t : State} (h : t.core = s.core) : TableStep s t
  | reset {t : State} (h : t.core = State.reset.core) : TableStep s t
  | amend (i : RecNo) (new : Record) (h : Amends s.config s.records[i] new) : TableStep s (s.setRecord i new)
  /-- A tombstone or a bar ends. -/
  | clear (i : RecNo)
      (h : s.records[i].state = .retired ∨ (s.records[i].state = .dormant ∧ s.records[i].kind ≠ .static)) :
      TableStep s (s.emptyRecord i)
  /-- A binding ends, its address held or freed. -/
  | release (i : RecNo) (hold : Bool)
      (h : s.records[i].live = true ∨ (s.records[i].state = .dormant ∧ s.records[i].kind = .static)) :
      TableStep s ((s.releaseByMode s.records[i] hold).emptyRecord i)
  /-- A learned binding becomes a tombstone, its address held. -/
  | tombstone (i : RecNo) (why : Reason) (hlive : s.records[i].live = true) (hk : s.records[i].kind ≠ .static) :
      TableStep s (s.endBinding i why)
  | placeStatic (id : ModuleId) (a cls : Byte) (groups : GroupSet) (lease : Byte) (i : RecNo)
      (ha : assignable a = true) (hlease : lease ≠ 0) (hlookup : s.lookup id = none)
      (huse : s.pool.inUse a none = none) (hway : s.placementWay id = some i) :
      TableStep s ((s.placeRecord i (Record.empty.madeStatic id a cls groups lease)).bindAddress a i)
  | convertStatic (id : ModuleId) (a cls : Byte) (groups : GroupSet) (lease : Byte) (i : RecNo)
      (ha : assignable a = true) (hlease : lease ≠ 0) (hlookup : s.lookup id = some i)
      (hpending : s.records[i].state = .pending) (huse : s.pool.inUse a (some i) = none) :
      TableStep s (((s.withdrawForConversion s.records[i] (some a)).bindAddress a i).changeRecord i
        (s.records[i].madeStatic id a cls groups lease))
  | placeDenied (id : ModuleId) (i : RecNo) (hlookup : s.lookup id = none) (hway : s.placementWay id = some i) :
      TableStep s (s.placeRecord i (Record.empty.madeDenied id))
  | convertDenied (id : ModuleId) (i : RecNo) (hlookup : s.lookup id = some i)
      (hpending : s.records[i].state = .pending) :
      TableStep s ((s.withdrawForConversion s.records[i] none).changeRecord i (s.records[i].madeDenied id))
  /-- The host retires a PENDING record. -/
  | retirePending (i : RecNo) (hpending : s.records[i].state = .pending) :
      TableStep s ((s.withdrawForConversion s.records[i] none).emptyRecord i)
  | withdraw (k : SlotNo) : TableStep s (s.withdraw k)
  | createClaim (d : Terms) (id : ModuleId) (cls preferred : Byte) (n : SegNo) (source : Address) (k : SlotNo) (i : RecNo)
      (a : Address) (hadmit : s.evaluate n id cls = .ok d) (hslot : s.firstFreeSlot = some k) (hlookup : s.lookup id = none)
      (hway : s.placementWay id = some i) (ha : s.pool.allocateFirst d.low d.high id preferred = some a) :
      TableStep s (s.createClaim d id n source k i a)
  | repeatOffer (k : SlotNo) (c : Claim) (n : SegNo) (source : Address) (hc : s.slots[k] = some c) :
      TableStep s (s.repeatOffer k c n source)
  | commit (k : SlotNo) (c : Claim) (n : SegNo) (hc : s.slots[k] = some c) : TableStep s (s.commit k c n)
  | reoffer (k : SlotNo) (c : Claim) (a : Address) (n : SegNo) (source : Address) (hc : s.slots[k] = some c)
      (ha : (s.holdDeclined c).reofferAddress c = some a) : TableStep s ((s.holdDeclined c).reoffer k c a n source)
  | endDeclined (k : SlotNo) (c : Claim) (hc : s.slots[k] = some c) :
      TableStep s ((s.holdDeclined c).endDeclined k c)
  | reserve (a : Address) (h : s.pool.placeOf a = .free ∨ s.pool.placeOf a = .held) :
      TableStep s (s.withPool (s.pool.take a .reserved))
  | unreserve (a : Address) (h : s.pool.placeOf a = .reserved) : TableStep s (s.withPool (s.pool.toTail a))
  | countDown : TableStep s (s.withPool s.pool.countDown)
  | noteSent (k : SlotNo) (c : Claim) (hc : s.slots[k] = some c) :
      TableStep s ((s.withSlot k (some { c with phase := .offered, window := s.fullWindow })).cancelExpiry k)
  | countWindows : TableStep s s.countWindows
  | runOutWindow (k : SlotNo) : TableStep s (s.runOutWindow k)
  | configure (p : List Byte) (c : Params) (h : Params.ofPayload p = .ok c) : TableStep s (s.reconfigure c)
  | writeRule (p : List Byte) (k : RuleNo) (r : Rule) (h : Rule.ofPayload p = .ok r) :
      TableStep s { s with rules := s.rules.set k r }

/-- From one state to another by changes of the tables. -/
def Leads : State → State → Prop := Relation.ReflTransGen TableStep

theorem Leads.refl (s : State) : Leads s s := Relation.ReflTransGen.refl

theorem Leads.trans {s t u : State} (h : Leads s t) (h' : Leads t u) : Leads s u := Relation.ReflTransGen.trans h h'

theorem TableStep.leads {s t : State} (h : TableStep s t) : Leads s t := Relation.ReflTransGen.single h

theorem Leads.quiet {s t : State} (h : t.core = s.core) : Leads s t := (TableStep.quiet h).leads

/-- From a state with the same tables. -/
theorem Leads.fromQuiet {s t u : State} (h : Leads u t) (hu : u.core = s.core) : Leads s t := (Leads.quiet hu).trans h

/-- What every change of the tables keeps is kept on the way. -/
theorem Leads.keeps {P : State → Prop} (hstep : ∀ s t, TableStep s t → P s → P t) {s t : State} (h : Leads s t) :
    P s → P t := by
  induction h with
  | refl => exact id
  | tail _ h ih => exact fun hs => hstep _ _ h (ih hs)

/-! ### Grants -/

theorem pointTo_leads (s : State) (q : Requester) : Leads s (s.pointTo q) := .quiet rfl

theorem answer_leads (s : State) (r : Request) (a : Answer) : Leads s (s.answer r a) := .quiet rfl

theorem takeFrame_leads (s : State) (n : SegNo) : Leads s (s.takeFrame n) := .quiet rfl

/-- A served request leads where its operation leads. -/
theorem serve_leads {s : State} {code : Byte} {length : Nat} {run : List Byte → State → State × Answer}
    (hrun : ∀ p u, Leads u (run p u).1) : Leads s (s.serve code length run) := by
  rcases serve_cases s code length run with ⟨r, _, _, _, h⟩ | ⟨r, _, _, _, h⟩ | h
  · rw [h]
    exact ((pointTo_leads s .host).trans (hrun r.payload _)).trans (answer_leads _ r _)
  · rw [h]; exact (pointTo_leads s .host).trans (answer_leads _ r _)
  · rw [h]; exact .refl s

/-- A request that only reads changes no table. -/
theorem serve_reads {s : State} {code : Byte} {length : Nat} {run : List Byte → State → State × Answer}
    (hrun : ∀ p u, (run p u).1 = u) : Leads s (s.serve code length run) :=
  serve_leads fun p u => by rw [hrun]; exact .refl u

/-- A taken frame leads where its operation leads. -/
theorem onFrame_leads {s : State} {n : SegNo} {run : Address → FieldMessage → State → Option State}
    (hrun : ∀ source m u t, run source m u = some t → Leads u t) : Leads s (s.onFrame n run) := by
  rcases onFrame_cases s n run with ⟨f, t, _, hf, h⟩ | h
  · rw [h]; exact (takeFrame_leads s n).trans (hrun _ _ _ _ hf)
  · rw [h]; exact .refl s

/-- A reply stands on its operation, or on the state before it. -/
theorem replyOr_leads {done orig : State} (n : SegNo) (dest : Address) (m : Message) (h : Leads orig done) :
    Leads orig (done.replyOr orig n dest m) := by
  rcases replyOr_cases done orig n dest m with ⟨_, hr⟩ | ⟨_, hr⟩
  · rw [hr]; exact h.trans (.quiet rfl)
  · rw [hr]; exact .quiet rfl

theorem place_leads (s : State) (n : SegNo) (dest : Address) (m : Message) : Leads s (s.place n dest m) := .quiet rfl

/-- Withdrawals lead one after another. -/
theorem withdrawWhere_leads (s : State) (p : Claim → Bool) : Leads s (s.withdrawWhere p) := by
  unfold State.withdrawWhere
  generalize slotsDescending = ks
  induction ks generalizing s with
  | nil => exact .refl s
  | cons k ks ih =>
    rw [List.foldl_cons]
    split
    · exact (TableStep.withdraw k).leads.trans (ih _)
    · exact ih s

/-! ### The amendments that operations make -/

theorem amends_setAttention {c : Params} {r : Record} (b : Byte) (hs : r.complete → r.state ≠ .empty)
    (hr : r.state = .retired → b ≠ 0) : Amends c r { r with attention := b } where
  complete h := by
    have hs := hs h
    obtain ⟨h1, h2, h3, h4, h5, h6, h7, h8, h9, h10⟩ := h
    exact ⟨h1, fun he => absurd he hs, h3, h4, h5, h6, h7, h8, h9, hr⟩
  id := rfl
  address := rfl
  bound _ := rfl
  pending := (em (r.state = .pending)).symm.imp (fun h => ⟨h, h⟩) fun h => ⟨h, h, rfl, rfl⟩
  findable _ := rfl
  wasNotEmpty := hs
  lease := id
  ticks _ _ _ h := h

/-- The bit of a reason makes an attention set non-empty. -/
theorem attention_or_ne_zero (b : Byte) (why : Reason) : b ||| BitVec.twoPow 8 why.bit ≠ 0 := by
  intro h
  have := congrArg (·.getLsbD why.bit) h
  cases why <;> simp [Reason.bit] at this

theorem amends_notify {c : Params} {r : Record} (why : Reason) (hs : r.state ≠ .empty) : Amends c r (r.notify why) :=
  amends_setAttention _ (fun _ => hs) fun _ => attention_or_ne_zero _ why

/-- Amendments follow one another. -/
theorem Amends.trans {c : Params} {r r' r'' : Record} (h : Amends c r r') (h' : Amends c r' r'') : Amends c r r'' where
  complete hr := h'.complete (h.complete hr)
  id := h'.id.trans h.id
  address := h'.address.trans h.address
  bound hr := (h'.bound (h.complete hr)).trans (h.bound hr)
  pending := by
    rcases h.pending with ⟨h1, h2⟩ | ⟨h1, h2, h3, h4⟩
    · exact .inl ⟨h1, (h'.pending.resolve_right fun h => h2 h.1).2⟩
    · obtain ⟨_, h2', h3', h4'⟩ := h'.pending.resolve_left fun h => h.1 h2
      exact .inr ⟨h1, h2', h3'.trans h3, h4'.trans h4⟩
  findable hr := (h'.findable (h.complete hr)).trans (h.findable hr)
  wasNotEmpty := h.wasNotEmpty
  lease hr := h'.lease (h.lease hr)
  ticks hc hr hl ht := h'.ticks hc (h.complete hr) (h.lease hl) (h.ticks hc hr hl ht)

theorem not_empty_of_findable {r : Record} (h : r.findable = true) : r.state ≠ .empty := by
  intro he; simp [Record.findable, he] at h

theorem live_of_findable {r : Record} (h : r.findable = true) (hp : r.state ≠ .pending) (hd : r.state ≠ .dormant) :
    r.live = true := by
  rw [live_iff]
  cases hs : r.state <;> simp_all [Record.findable]

theorem findable_of_live {r : Record} (h : r.live = true) : r.findable = true := by
  rcases live_iff.mp h with h | h <;> simp [Record.findable, h]

theorem bound_of_live {r : Record} (h : r.live = true) (hc : r.complete) : r.bound = true := by
  rcases ((complete_iff_of_live h).mp hc).1 with hk | hk <;> simp [Record.bound, hk, h]

theorem not_pending_of_live {r : Record} (h : r.live = true) : r.state ≠ .pending := by
  rcases live_iff.mp h with h | h <;> simp [h]

theorem not_empty_of_live {r : Record} (h : r.live = true) : r.state ≠ .empty := by
  rcases live_iff.mp h with h | h <;> simp [h]

/-- A live record stays live, on the terms given, with its address and ID. -/
theorem amends_live {c : Params} {old new : Record} (hold : old.live = true) (hnew : new.live = true)
    (hcomplete : old.complete → new.complete) (hid : new.id = old.id) (haddress : new.address = old.address)
    (hlease : old.lease ≠ some 0 → new.lease ≠ some 0)
    (hticks : c.staleWindow ≠ 0 → old.complete → old.lease ≠ some 0 → old.ticks ≠ 0 → new.ticks ≠ 0) :
    Amends c old new where
  complete := hcomplete
  id := hid
  address := haddress
  bound h := (bound_of_live hnew (hcomplete h)).trans (bound_of_live hold h).symm
  pending := .inl ⟨not_pending_of_live hold, not_pending_of_live hnew⟩
  findable _ := (findable_of_live hnew).trans (findable_of_live hold).symm
  wasNotEmpty _ := not_empty_of_live hold
  lease := hlease
  ticks hc h hl ht _ := hticks hc h hl (ht hold)

theorem lease_getD_ne_zero {r : Record} (hterms : r.hasTerms) (h : r.lease ≠ some 0) : r.lease.getD 0 ≠ 0 := by
  obtain ⟨_, _, _, _, hl⟩ := hterms
  cases hr : r.lease with
  | none => exact absurd hr hl
  | some x => intro h0; exact h (by rw [hr]; exact congrArg some h0)

theorem amends_refresh {c : Params} {r : Record} (h : r.live = true) : Amends c r r.refresh :=
  amends_live h rfl (fun hc => (complete_iff_of_live rfl).mpr ((complete_iff_of_live h).mp hc)) rfl rfl id
    fun _ hc hl _ => lease_getD_ne_zero ((complete_iff_of_live h).mp hc).2.1 hl

theorem amends_segment {c : Params} {r : Record} (n : SegNo) (h : r.live = true) :
    Amends c r { r with segment := some n } :=
  amends_live h h
    (fun hc => by
      obtain ⟨hk, hterms, _, hslot⟩ := (complete_iff_of_live h).mp hc
      exact (complete_iff_of_live (r := { r with segment := some n }) h).mpr ⟨hk, hterms, by simp, hslot⟩)
    rfl rfl id fun _ _ _ ht => ht

/-- A DORMANT record whose module is received: a complete one is STATIC, and becomes ACTIVE on a segment. -/
theorem amends_receive {c : Params} {r : Record} (n : SegNo) (hs : r.state = .dormant) (hk : r.kind ≠ .denied) :
    Amends c r { r.refresh with segment := some n } where
  complete hc := by
    obtain ⟨hterms, hslot, _⟩ := (complete_iff_of_staticDormant ((kind_of_dormant hc hs).resolve_right hk) hs).mp hc
    exact (complete_iff_of_live (r := { r.refresh with segment := some n }) rfl).mpr
      ⟨.inr ((kind_of_dormant hc hs).resolve_right hk), hterms, by simp, hslot⟩
  id := rfl
  address := rfl
  bound hc := by
    have := (kind_of_dormant hc hs).resolve_right hk
    simp [Record.bound, Record.refresh, this]
  pending := .inl ⟨by simp [hs], by simp [Record.refresh]⟩
  findable _ := by simp [Record.findable, Record.refresh, hs]
  wasNotEmpty _ := by simp [hs]
  lease h := h
  ticks _ hc hl _ _ :=
    lease_getD_ne_zero ((complete_iff_of_staticDormant ((kind_of_dormant hc hs).resolve_right hk) hs).mp hc).1 hl

theorem amends_charge {c : Params} {r : Record} (h : r.live = true) : Amends c r r.charge :=
  (amends_notify .conflict (not_empty_of_live h)).trans
    (amends_live (new := r.charge) h h
      (fun hc => (complete_iff_of_live (r := r.charge) h).mpr ((complete_iff_of_live (r := r.notify .conflict) h).mp hc))
      rfl rfl id fun _ _ _ ht => ht)

theorem amends_tickDown {c : Params} {r : Record} (h : r.live = true) (ht : ¬r.ticks ≤ 1) : Amends c r r.tickDown :=
  amends_live h h
    (fun hc => (complete_iff_of_live (r := r.tickDown) h).mpr ((complete_iff_of_live h).mp hc)) rfl rfl id
    fun _ _ _ _ => by
      have : r.tickDown.ticks = r.ticks - 1 := rfl
      rw [this]; bv_omega

/-- A live record goes STALE for the length of the stale window. -/
theorem amends_stale {c : Params} {r : Record} (h : r.live = true) :
    Amends c r { r with state := .stale, ticks := c.staleWindow } :=
  amends_live h rfl (fun hc => (complete_iff_of_live rfl).mpr ((complete_iff_of_live h).mp hc)) rfl rfl id
    fun hw _ _ _ => hw

/-- The binding of a STATIC record ends, and the record keeps its address. -/
theorem amends_dormant {c : Params} {r : Record} (h : r.live = true) (hk : r.kind = .static) :
    Amends c r { r with state := .dormant, ticks := 0 } where
  complete hc := by
    obtain ⟨_, hterms, _, hslot⟩ := (complete_iff_of_live h).mp hc
    exact (complete_iff_of_staticDormant (r := { r with state := .dormant, ticks := 0 }) hk rfl).mpr ⟨hterms, hslot, rfl⟩
  id := rfl
  address := rfl
  bound _ := by simp [Record.bound, hk]
  pending := .inl ⟨not_pending_of_live h, by simp⟩
  findable _ := by rw [findable_of_live h]; rfl
  wasNotEmpty _ := not_empty_of_live h
  lease h := h
  ticks _ _ _ _ h := by simp [Record.live] at h

theorem applyTo_kind (e : EditItems) (r : Record) :
    (e.applyTo r).kind = if e.pin then .static else if e.unpin then .dynamic else r.kind := rfl

/-- An edit of a bar that passes the checks clears the conflict count at most. -/
theorem applyTo_of_not_beyondClear {e : EditItems} (r : Record) (h : e.beyondClear = false) :
    e.applyTo r = { r with conflicts := if e.clearConflict then 0 else r.conflicts } := by
  simp only [EditItems.beyondClear, Bool.or_eq_false_iff, Option.isSome_eq_false_iff, Option.isNone_iff_eq_none] at h
  obtain ⟨⟨⟨⟨hcls, hgroups⟩, hlease⟩, hpin⟩, hunpin⟩ := h
  simp [EditItems.applyTo, hcls, hgroups, hlease, hpin, hunpin]

/-- The items of an edit that passes the checks of R25 amend the record. -/
theorem amends_applyTo {c : Params} {r : Record} {e : EditItems} (hempty : r.state ≠ .empty)
    (hstate : ¬(r.state = .pending ∨ r.state = .retired)) (hdenied : ¬(r.kind = .denied ∧ e.beyondClear = true))
    (hfield : ¬(e.lease = some 0 ∨ (e.pin = true ∧ e.unpin = true)))
    (hkind : ¬((e.pin = true ∧ r.kind = .static) ∨ (e.unpin = true ∧ r.kind = .dynamic)))
    (hdormant : ¬(e.unpin = true ∧ r.state = .dormant)) : Amends c r (e.applyTo r) := by
  have hlease : r.lease ≠ some 0 → (e.applyTo r).lease ≠ some 0 := fun h => by
    show e.lease.or r.lease ≠ some 0
    cases he : e.lease with
    | none => simpa using h
    | some x => intro hx; exact hfield (.inl (he.trans (by simpa using hx)))
  by_cases hlive : r.live = true
  · refine amends_live hlive hlive (fun hc => ?_) rfl rfl hlease fun _ _ _ ht => ht
    obtain ⟨hk, ⟨hid, hgen, haddress, hcls, hl⟩, hseg, hslot⟩ := (complete_iff_of_live hlive).mp hc
    refine (complete_iff_of_live (r := e.applyTo r) hlive).mpr ⟨?_, ⟨hid, hgen, haddress, ?_, ?_⟩, hseg, hslot⟩
    · rw [applyTo_kind]
      split
      · exact .inr rfl
      · split
        · exact .inl rfl
        · exact hk
    · show e.cls.or r.cls ≠ none
      simp [Option.or_eq_none_iff, hcls]
    · show e.lease.or r.lease ≠ none
      simp [Option.or_eq_none_iff, hl]
  have hdorm : r.state = .dormant := by
    rw [live_iff] at hlive
    cases h : r.state <;> simp_all
  have hunpin : e.unpin = false := by simpa [hdorm] using hdormant
  -- a complete DORMANT record is STATIC, and is not pinned, or it is a bar
  have hkept : r.complete → (e.applyTo r).kind = r.kind := fun hc => by
    rw [applyTo_kind, hunpin]
    have hpin : e.pin = false := by
      rcases kind_of_dormant hc hdorm with hk | hk
      · simpa [hk] using hkind
      · rw [← Bool.not_eq_true]; intro hp; exact hdenied ⟨hk, by simp [EditItems.beyondClear, hp]⟩
    simp [hpin]
  exact {
    complete := fun hc => by
      rcases kind_of_dormant hc hdorm with hk | hk
      · obtain ⟨⟨hid, hgen, haddress, hcls, hl⟩, hslot, hticks⟩ := (complete_iff_of_staticDormant hk hdorm).mp hc
        refine (complete_iff_of_staticDormant (r := e.applyTo r) ((hkept hc).trans hk) hdorm).mpr
          ⟨⟨hid, hgen, haddress, ?_, ?_⟩, hslot, hticks⟩
        · simp [EditItems.applyTo, Option.or_eq_none_iff, hcls]
        · simp [EditItems.applyTo, Option.or_eq_none_iff, hl]
      · have hbc : e.beyondClear = false := by simpa [hk] using hdenied
        rw [applyTo_of_not_beyondClear r hbc]
        exact (complete_iff_of_denied (r := { r with conflicts := if e.clearConflict then 0 else r.conflicts }) hk).mpr ((complete_iff_of_denied hk).mp hc)
    id := rfl
    address := rfl
    bound := fun hc => by
      show ((e.applyTo r).kind == .static || ((e.applyTo r).kind == .dynamic && r.live)) = r.bound
      rw [hkept hc]; rfl
    pending := .inl ⟨fun h => hstate (.inl h), fun h => hstate (.inl h)⟩
    findable := fun _ => rfl
    wasNotEmpty := fun _ => hempty
    lease := hlease
    ticks := fun _ _ _ _ h => absurd h hlive }

end Sys2Proof.Machine
end

section
/-! PROOF. Which changes of the tables each command is made of. -/

namespace Sys2Proof.Machine

/-! ### Changes of one record -/

theorem changeRecord_leads {s : State} {i : RecNo} {new : Record} (h : Amends s.config s.records[i] new)
    (hs : new.state ≠ .empty) : Leads s (s.changeRecord i new) :=
  (TableStep.amend i _ (h.changed hs)).leads

theorem receive_leads {s : State} {i : RecNo} (n : SegNo) (source : Address) (id : ModuleId)
    (hs : s.records[i].state = .dormant) (hk : s.records[i].kind ≠ .denied) :
    Leads s (s.receiveStatic i n source id) :=
  replyOr_leads n source _ (changeRecord_leads
    ((amends_receive n hs hk).trans (amends_notify .returned (by simp [Record.refresh])))
    (by simp [Record.refresh, Record.notify]))

theorem endBinding_leads {s : State} {i : RecNo} (why : Reason) (hlive : s.records[i].live = true) :
    Leads s (s.endBinding i why) := by
  by_cases hk : s.records[i].kind = .static
  · rw [State.endBinding, if_pos hk]
    exact changeRecord_leads ((amends_notify why (not_empty_of_live hlive)).trans
      (amends_dormant (r := s.records[i].notify why) hlive hk)) (by simp)
  · exact (TableStep.tombstone i why hlive hk).leads

/-! ### Host commands on records -/

theorem bindStatic_leads (s : State) (id : ModuleId) (a cls : Byte) (groups : GroupSet) (lease : Byte) :
    Leads s (s.bindStatic id a cls groups lease).1 := by
  unfold State.bindStatic
  split
  · exact .refl s
  split
  · exact .refl s
  next ha =>
  split
  · exact .refl s
  next hlease =>
  have ha : assignable a = true := by simpa using ha
  split
  · next i hi =>
    split
    · exact .refl s
    next hp =>
    split
    · exact .refl s
    · next huse => exact (TableStep.convertStatic id a cls groups lease i ha hlease hi (not_not.mp hp) huse).leads
  · next hi =>
    split
    · exact .refl s
    next huse =>
    split
    · exact .refl s
    · next i hway => exact (TableStep.placeStatic id a cls groups lease i ha hlease hi huse hway).leads

theorem addDeny_leads (s : State) (id : ModuleId) : Leads s (s.addDeny id).1 := by
  unfold State.addDeny
  split
  · exact .refl s
  split
  · next i hi =>
    split
    · exact .refl s
    · next hp => exact (TableStep.convertDenied id i hi (not_not.mp hp)).leads
  · next hi =>
    split
    · exact .refl s
    · next i hway => exact (TableStep.placeDenied id i hi hway).leads

theorem editRecord_leads (s : State) (i : RecNo) (expected : BitVec 16) (e : EditItems) :
    Leads s (s.editRecord i expected e).1 := by
  simp only [State.editRecord]
  split
  · exact .refl s
  next hempty =>
  split
  · exact .refl s
  split
  · exact .refl s
  next hstate =>
  split
  · exact .refl s
  next hdenied =>
  split
  · exact .refl s
  next hfield =>
  split
  · exact .refl s
  next hkind =>
  split
  · exact .refl s
  · next hdormant =>
    exact changeRecord_leads (amends_applyTo hempty hstate hdenied hfield hkind hdormant) hempty

theorem retire_leads (s : State) (i : RecNo) (hold : Bool) : Leads s (s.retire i hold) := by
  have hplaced (m : Message) (h : s.records[i].live = true) :
      Leads s (((s.placeForRecord s.records[i] m).releaseByMode s.records[i] hold).emptyRecord i) := by
    have hq : Leads s (s.placeForRecord s.records[i] m) := by
      unfold State.placeForRecord; split <;> exact .quiet rfl
    have hr : (s.placeForRecord s.records[i] m).records = s.records := by
      unfold State.placeForRecord; split <;> rfl
    refine hq.trans ?_
    have := (TableStep.release (s := s.placeForRecord s.records[i] m) i hold (.inl (by rw [hr]; exact h))).leads
    rwa [hr] at this
  simp only [State.retire]
  split
  · next hs => exact (TableStep.retirePending i hs).leads
  · next hs => exact hplaced _ (live_iff.mpr (.inl hs))
  · next hs => exact hplaced _ (live_iff.mpr (.inr hs))
  · next hs =>
    split
    · next hk => exact (TableStep.release i hold (.inr ⟨hs, hk⟩)).leads
    · next hk => exact (TableStep.clear i (.inr ⟨hs, hk⟩)).leads
  · next hs => exact (TableStep.clear i (.inl hs)).leads
  · exact .refl s

theorem retireRecord_leads (s : State) (i : RecNo) (expected : BitVec 16) (mode : Byte) :
    Leads s (s.retireRecord i expected mode).1 := by
  simp only [State.retireRecord]
  split
  · exact .refl s
  split
  · exact .refl s
  split
  · exact retire_leads s i true
  split
  · exact retire_leads s i false
  · exact .refl s

theorem collectAttention_leads (s : State) (start : RecNo) : Leads s (s.collectAttention start).1 := by
  unfold State.collectAttention
  split
  · exact .refl s
  next i hi =>
  have hne : s.records[i].attention ≠ 0 := by simpa using List.find?_some hi
  simp only
  split
  · next hr => exact (TableStep.clear i (.inl hr)).leads
  · next hr =>
    refine (TableStep.amend i _ (amends_setAttention 0 (fun hc he => hne ?_) fun h => absurd h hr)).leads
    rw [hc.2.1 he]; rfl

/-! ### Host commands on addresses, modes and settings -/

theorem reserveAddress_leads (s : State) (a : Address) : Leads s (s.reserveAddress a).1 := by
  unfold State.reserveAddress
  split
  · exact .refl s
  · next h => exact (TableStep.reserve a (.inl h)).leads
  · next h => exact (TableStep.reserve a (.inr h)).leads
  all_goals exact .refl s

theorem freeReservation_leads (s : State) (a : Address) : Leads s (s.freeReservation a).1 := by
  unfold State.freeReservation
  split
  · exact .refl s
  · next h => exact (TableStep.unreserve a h).leads
  · exact .refl s

theorem readList_reads (s : State) (which : Byte) (position : Nat) : (s.readList which position).1 = s := by
  unfold State.readList
  split
  · split <;> rfl
  split
  · split <;> rfl
  · rfl

theorem setModeRun_leads (s : State) : Leads s s.setModeRun.1 := by
  unfold State.setModeRun
  split
  · exact .quiet rfl
  all_goals exact .refl s

theorem setModeHalt_leads (s : State) : Leads s s.setModeHalt.1 := by
  unfold State.setModeHalt
  split
  · have h := withdrawWhere_leads s fun _ => true
    rw [State.withdrawAll]
    generalize s.withdrawWhere _ = w at h ⊢
    exact h.trans (.quiet rfl)
  all_goals exact .refl s

theorem setMode_leads (s : State) (arg : Byte) : Leads s (s.setMode arg).1 := by
  unfold State.setMode
  split
  · exact setModeRun_leads s
  split
  · exact setModeHalt_leads s
  · exact .refl s

theorem startFlush_leads (s : State) : Leads s s.startFlush := by
  have h := withdrawWhere_leads s fun _ => true
  rw [State.startFlush, State.withdrawAll]
  generalize s.withdrawWhere _ = w at h ⊢
  exact h.trans (.quiet rfl)

theorem execFlushDynamic_leads {s t : State} (h : execFlushDynamic s = .next t) : Leads s t := by
  simp only [execFlushDynamic, Host.Outcome.next.injEq] at h
  subst h
  split
  · split
    · split
      · exact (pointTo_leads s .host).trans (answer_leads _ _ _)
      · split
        · exact (pointTo_leads s .host).trans (answer_leads _ _ _)
        · exact (pointTo_leads s .host).trans (startFlush_leads _)
        · exact .refl s
    · exact .refl s
  · exact .refl s

theorem flushRecord_leads (s : State) (i : RecNo) : Leads s (s.flushRecord i) := by
  unfold State.flushRecord
  split
  · next h => exact (TableStep.release i false (.inl h.2)).leads.trans (.quiet rfl)
  · exact .refl s

theorem sweepFromOwed_leads (s : State) : Leads s s.sweepFromOwed := by
  unfold State.sweepFromOwed; split <;> exact .quiet rfl

theorem answerFlush_leads (s : State) : Leads s s.answerFlush := by
  unfold State.answerFlush; split <;> exact .quiet rfl

theorem endFlush_leads (s : State) : Leads s s.endFlush := by
  have hbroadcast : Leads s s.broadcastReannounce := .quiet rfl
  rw [State.endFlush]
  generalize s.broadcastReannounce = u at hbroadcast ⊢
  exact hbroadcast.trans (((sweepFromOwed_leads _).trans (answerFlush_leads _)).fromQuiet rfl)

theorem execFlushStep_leads {s t : State} (h : execFlushStep s = .next t) : Leads s t := by
  simp only [execFlushStep, Host.Outcome.next.injEq] at h
  subst h
  split
  · next i _ =>
    have hrec := (pointTo_leads s .timer).trans (flushRecord_leads (s.pointTo .timer) i)
    split
    · exact hrec.trans (endFlush_leads _)
    · exact hrec.trans (.quiet rfl)
  · exact .refl s

theorem configure_leads (s : State) (p : List Byte) : Leads s (s.configure p).1 := by
  unfold State.configure
  split
  · split
    · exact .refl s
    · next c hc => exact (TableStep.configure p c hc).leads
  · exact .refl s

theorem writeRule_leads (s : State) (p : List Byte) : Leads s (s.writeRule p).1 := by
  unfold State.writeRule
  split
  · exact .refl s
  next k _ =>
  split
  · exact .refl s
  · next r hr => exact (TableStep.writeRule p k r hr).leads

/-- A group's two settings do not touch its member count. -/
theorem members_set (groups : Vector Group 16) (g : GroupNo) (enabled : Bool) (mask : SegSet) :
    (groups.set g { groups[g] with enabled := enabled, mask := mask }).map (·.members) = groups.map (·.members) := by
  ext i hi
  simp only [Vector.getElem_map, Vector.getElem_set]
  split
  · next h => subst h; rfl
  · rfl

theorem writeGroup_leads (s : State) (p : List Byte) : Leads s (s.writeGroup p).1 := by
  unfold State.writeGroup
  split
  iterate 3 exact .refl s
  exact .quiet (by simp only [State.core, members_set])

theorem withdrawSegment_leads (s : State) (n : SegNo) : Leads s (s.withdrawSegment n) := withdrawWhere_leads s _

theorem disableSegment_leads (s : State) (n : SegNo) : Leads s (s.disableSegment n) := by
  have h := withdrawSegment_leads s n
  rw [State.disableSegment]
  generalize s.withdrawSegment n = w at h ⊢
  exact h.trans (.quiet rfl)

theorem enableSegment_leads (s : State) (n : SegNo) : Leads s (s.enableSegment n) := by
  have h : Leads s (if s.segs[n].faultNotice then s.withdrawSegment n else s) := by
    split
    · exact withdrawSegment_leads s n
    · exact .refl s
  rw [State.enableSegment]
  generalize (if s.segs[n].faultNotice then s.withdrawSegment n else s) = w at h ⊢
  exact h.trans (.quiet rfl)

theorem controlSegment_leads (s : State) (f : SegFields) : Leads s (s.controlSegment f) := by
  have hflags : Leads s (if f.clearFlags then s.clearSegFlags f.segment else s) := by split <;> exact .quiet rfl
  simp only [State.controlSegment]
  generalize (if f.clearFlags then s.clearSegFlags f.segment else s) = s1 at hflags ⊢
  have hdisable : Leads s1 (if f.enable = false ∧ s1.segs[f.segment].state ≠ .disabled then
      s1.disableSegment f.segment else s1) := by
    split
    · exact disableSegment_leads s1 f.segment
    · exact .refl s1
  have hset := (hflags.trans hdisable)
  generalize (if f.enable = false ∧ s1.segs[f.segment].state ≠ .disabled then s1.disableSegment f.segment else s1) = s2
    at hset ⊢
  have hset : Leads s (s2.setSegment f) := hset.trans (.quiet rfl)
  split
  · exact hset.trans (enableSegment_leads _ _)
  · exact hset

theorem segmentControl_leads (s : State) (p : List Byte) : Leads s (s.segmentControl p).1 := by
  unfold State.segmentControl
  split
  · exact .refl s
  · split
    · exact .refl s
    · exact controlSegment_leads s _

/-! ### Frames -/

theorem announceNew_leads (s : State) (n : SegNo) (source : Address) (id : ModuleId) (cls preferred : Byte)
    (hlookup : s.lookup id = none) : Leads s (s.announceNew n source id cls preferred) := by
  unfold State.announceNew
  split
  · exact place_leads ..
  next d hd =>
  split
  · exact place_leads ..
  next k hk =>
  split
  · exact place_leads ..
  next i hi =>
  split
  · exact place_leads ..
  · next a ha =>
    exact replyOr_leads _ _ _ (TableStep.createClaim d id cls preferred n source k i a hd hk hlookup hi ha).leads

theorem announcePending_leads (s : State) (i : RecNo) (n : SegNo) (source : Address) (id : ModuleId) :
    Leads s (s.announcePending i n source id) := by
  unfold State.announcePending
  split
  · exact .refl s
  next k _ =>
  split
  · exact .refl s
  next c hc =>
  split
  · exact replyOr_leads _ _ _ (TableStep.repeatOffer k c n source hc).leads
  · exact replyOr_leads _ _ _ (TableStep.withdraw k).leads

theorem announceReturn_leads {s : State} {i : RecNo} (n : SegNo) (source : Address) (id : ModuleId)
    (h : s.records[i].live = true) : Leads s (s.announceReturn i n source id) :=
  replyOr_leads _ _ _ (changeRecord_leads
    ((amends_refresh h).trans (amends_notify .returned (by simp [Record.refresh])))
    (by simp [Record.refresh, Record.notify]))

theorem announceMove_leads {s : State} {i : RecNo} (n : SegNo) (source : Address) (id : ModuleId)
    (h : s.records[i].live = true) : Leads s (s.announceMove i n source id) := by
  unfold State.announceMove
  split
  · exact replyOr_leads _ _ _ (changeRecord_leads
      (((amends_refresh h).trans (amends_segment n rfl)).trans (amends_notify .moved (by simp [Record.refresh])))
      (by simp [Record.refresh, Record.notify]))
  · exact replyOr_leads _ _ _ (changeRecord_leads (amends_charge h) (not_empty_of_live h))

theorem announceDenied_leads {s : State} {i : RecNo} (n : SegNo) (source : Address) (id : ModuleId)
    (h : s.records[i].state ≠ .empty) : Leads s (s.announceDenied i n source id) :=
  replyOr_leads _ _ _ (changeRecord_leads (amends_notify .deniedSeen h) h)

theorem announceRunning_leads (s : State) (n : SegNo) (source : Address) (id : ModuleId) (cls preferred : Byte) :
    Leads s (s.announceRunning n source id cls preferred) := by
  unfold State.announceRunning
  split
  · next h => exact announceNew_leads s n source id cls preferred h
  next i hi =>
  have hf := (lookup_eq_some hi).2.1
  simp only
  split
  · exact announceDenied_leads n source id (not_empty_of_findable hf)
  next hk =>
  split
  · exact announcePending_leads s i n source id
  next hp =>
  split
  · next hd => exact receive_leads n source id hd hk
  next hd =>
  have hlive := live_of_findable hf hp hd
  split
  · exact announceReturn_leads n source id hlive
  · exact announceMove_leads n source id hlive

theorem announceTaken_leads (s : State) (n : SegNo) (source : Address) (id : ModuleId) (cls preferred : Byte) :
    Leads s (s.announceTaken n source id cls preferred) := by
  unfold State.announceTaken
  split
  · exact place_leads ..
  · exact place_leads ..
  · exact announceRunning_leads s n source id cls preferred

theorem acceptTaken_leads (s : State) (n : SegNo) (source : Address) (id : ModuleId) (nonce : BitVec 16) (a : Address) :
    Leads s (s.acceptTaken n source id nonce a) := by
  unfold State.acceptTaken
  split
  · exact place_leads ..
  · exact place_leads ..
  unfold State.acceptRunning
  split
  · next k c hc => exact replyOr_leads _ _ _ (TableStep.commit k c n (findClaim_eq_some hc).1).leads
  unfold State.acceptUnmatched
  split
  · exact place_leads ..
  simp only
  split
  · exact place_leads ..
  split
  · next h => exact receive_leads n source id h.2.1 (by rw [h.1]; decide)
  · exact place_leads ..

theorem declineTaken_leads (s : State) (n : SegNo) (source : Address) (id : ModuleId) (nonce : BitVec 16) :
    Leads s (s.declineTaken n source id nonce) := by
  unfold State.declineTaken
  split
  · exact .refl s
  · exact .refl s
  split
  · next k c hc =>
    have hc := (findClaim_eq_some hc).1
    simp only [State.declineMatched]
    split
    · next a ha => exact replyOr_leads _ _ _ (TableStep.reoffer k c a n source hc ha).leads
    · exact replyOr_leads _ _ _ (TableStep.endDeclined k c hc).leads
  · exact .refl s

theorem boundLive_eq_some {s : State} {n : SegNo} {a : Address} {i : RecNo} (h : s.boundLive n a = some i) :
    s.pool.placeOf a = .bound i ∧ s.records[i].live = true ∧ s.records[i].segment = some n := by
  unfold State.boundLive at h
  split at h
  · next j hj =>
    split at h
    · next hl => cases h; exact ⟨hj, hl⟩
    · cases h
  · cases h

theorem heartbeatTaken_leads (s : State) (n : SegNo) (a : Address) (id : ModuleId) :
    Leads s (s.heartbeatTaken n a id) := by
  unfold State.heartbeatTaken
  split
  · exact .refl s
  · exact .refl s
  unfold State.heartbeatRunning
  split
  · exact place_leads ..
  next i hi =>
  have hlive := (boundLive_eq_some hi).2.1
  split
  · exact changeRecord_leads (amends_refresh hlive) (by simp [Record.refresh])
  · exact replyOr_leads _ _ _ (changeRecord_leads (amends_charge hlive) (not_empty_of_live hlive))

theorem releaseTaken_leads (s : State) (n : SegNo) (a : Address) (id : ModuleId) :
    Leads s (s.releaseTaken n a id) := by
  unfold State.releaseTaken
  split
  · exact .refl s
  · exact .refl s
  unfold State.releaseRunning
  split
  · exact place_leads ..
  next i hi =>
  split
  · exact endBinding_leads .released (boundLive_eq_some hi).2.1
  · exact .refl s

theorem resolveTaken_leads (s : State) (n : SegNo) (a : Address) (requester : ModuleId) (q : Question) :
    Leads s (s.resolveTaken n a requester q) := by
  unfold State.resolveTaken
  split <;> exact place_leads ..

/-! ### Notices, time and sweeps -/

theorem noteSent_leads (s : State) (nonce : BitVec 16) : Leads s (s.noteSent nonce) := by
  unfold State.noteSent
  split
  · exact .refl s
  · next k c hc => exact (TableStep.noteSent k c (findClaim_eq_some hc).1).leads

theorem noteDropped_leads (s : State) (n : SegNo) (nonce : BitVec 16) : Leads s (s.noteDropped n nonce) := by
  unfold State.noteDropped
  split
  · exact .refl s
  · next k c hc =>
    split
    · exact (TableStep.withdraw k).leads
    · exact .refl s

theorem deliverTick_leads (s : State) : Leads s s.deliverTick := by
  have howe : Leads s s.oweTick := by unfold State.oweTick; split <;> exact .quiet rfl
  unfold State.deliverTick
  split
  · exact .refl s
  · split
    · exact howe
    · exact .quiet rfl
  · exact howe

theorem completeMillisecond_leads (s : State) : Leads s s.completeMillisecond := by
  refine (TableStep.countWindows).leads.trans ?_
  simp only [State.completeMillisecond]
  split
  · exact (deliverTick_leads _).fromQuiet rfl
  · exact .quiet rfl

theorem refclkPeriod_leads (s : State) : Leads s s.refclkPeriod := by
  unfold State.refclkPeriod
  split
  · split
    · exact completeMillisecond_leads s
    · exact .quiet rfl
  · exact .refl s

theorem holdListStep_leads (s : State) : Leads s s.holdListStep :=
  (TableStep.countDown).leads.trans (.quiet rfl)

theorem probe_leads (s : State) (i : RecNo) : Leads s (s.probe i) := by
  unfold State.probe State.placeForRecord
  split <;> exact .quiet rfl

theorem visitRecord_leads (s : State) (i : RecNo) : Leads s (s.visitRecord i) := by
  unfold State.visitRecord
  split
  · next hs =>
    have hlive : s.records[i].live = true := live_iff.mpr (.inl hs)
    split
    · exact (changeRecord_leads
        ((amends_notify .stale (not_empty_of_live hlive)).trans (amends_stale (r := s.records[i].notify .stale) hlive))
        (by simp)).trans (probe_leads _ i)
    · next ht => exact changeRecord_leads (amends_tickDown hlive ht) (not_empty_of_live hlive)
  · next hs =>
    have hlive : s.records[i].live = true := live_iff.mpr (.inr hs)
    split
    · exact endBinding_leads .expired hlive
    · next ht => exact (changeRecord_leads (amends_tickDown hlive ht) (not_empty_of_live hlive)).trans (probe_leads _ i)
  · exact .refl s

theorem endSweep_leads (s : State) : Leads s s.endSweep := by
  have hend : Leads s (s.withEngine { s.engine with sweeping := false, sweepNext := .holdList }) := .quiet rfl
  simp only [State.endSweep]
  split
  · exact hend
  · exact hend.trans (sweepFromOwed_leads _)

theorem sweepVisit_leads (s : State) (i : RecNo) : Leads s (s.sweepVisit i) := by
  have hvisit := (pointTo_leads s .timer).trans (visitRecord_leads (s.pointTo .timer) i)
  rw [State.sweepVisit]
  generalize (s.pointTo .timer).visitRecord i = u at hvisit ⊢
  simp only
  split
  · exact hvisit.trans (endSweep_leads u)
  · exact hvisit.trans (.quiet rfl)

/-! ### Transactions -/

theorem transaction_leads {s : State} {out : List Byte} {act : State → State} (hact : ∀ u, Leads u (act u)) :
    Leads s (s.transaction out act) := by
  unfold State.transaction
  split
  · exact (hact _).fromQuiet rfl
  · exact .quiet rfl

theorem enterReset_leads (s : State) (cause : Phase) (sdo : List Byte) : Leads s (s.enterReset cause sdo) :=
  (TableStep.reset (t := s.enterReset cause sdo) rfl).leads

theorem judgeFrame_leads (s : State) (input : List Byte) : Leads s (s.judgeFrame input) := by
  unfold State.judgeFrame
  split
  · exact .refl s
  split
  · exact .quiet rfl
  split <;> exact .quiet rfl

/-! ### Every command -/

/-- Every command leads from the state it meets to the state it answers by changes of the tables. -/
theorem exec_leads {c : Instr} {s t : State} (h : exec c s = .next t) : Leads s t := by
  have hnext : ∀ {u : State}, (Host.Outcome.next u : Host.Outcome State Fault Refusal) = .next t → Leads s u → Leads s t :=
    fun h hl => by cases h; exact hl
  cases c with
  | resetPin => exact hnext h (enterReset_leads ..)
  | powerUp => exact hnext h (enterReset_leads ..)
  | resetRecoveryDone => exact hnext h (.quiet rfl)
  | reset extra => exact hnext h (transaction_leads fun u => enterReset_leads ..)
  | submit input => exact hnext h (transaction_leads fun u => judgeFrame_leads u input)
  | fetchNext clocked => exact hnext h (transaction_leads fun u => by split <;> exact .quiet rfl)
  | fetchAgain clocked => exact hnext h (transaction_leads fun u => .refl u)
  | status clocked => exact hnext h (transaction_leads fun u => .refl u)
  | notify input => exact hnext h (transaction_leads fun u => by split <;> exact .quiet rfl)
  | acknowledge input => exact hnext h (transaction_leads fun u => by split <;> exact .quiet rfl)
  | unknownTransaction bytes => exact hnext h (by split <;> exact .quiet rfl)
  | badCommand =>
    refine hnext h ?_
    split
    · split
      · exact .refl s
      · exact (pointTo_leads s .host).trans (answer_leads _ _ _)
    · exact .refl s
  | readRecord => exact hnext h (serve_reads fun _ _ => rfl)
  | findId => exact hnext h (serve_reads fun p u => by unfold State.findId; split; rfl; split <;> rfl)
  | findAddress => exact hnext h (serve_reads fun p u => by unfold State.findAddress; split <;> rfl)
  | bindStatic => exact hnext h (serve_leads fun p u => bindStatic_leads ..)
  | addDeny => exact hnext h (serve_leads fun p u => addDeny_leads ..)
  | editRecord => exact hnext h (serve_leads fun p u => editRecord_leads ..)
  | retireRecord => exact hnext h (serve_leads fun p u => retireRecord_leads ..)
  | collectAttention => exact hnext h (serve_leads fun p u => collectAttention_leads ..)
  | reserveAddress => exact hnext h (serve_leads fun p u => reserveAddress_leads ..)
  | freeReservation => exact hnext h (serve_leads fun p u => freeReservation_leads ..)
  | readAddress => exact hnext h (serve_reads fun _ _ => rfl)
  | readList => exact hnext h (serve_reads fun p u => readList_reads ..)
  | setModeRun =>
    refine hnext h ?_
    split
    · exact .refl s
    · exact serve_leads fun p u => setMode_leads ..
  | setModeHalt =>
    refine hnext h ?_
    split
    · exact .refl s
    · exact serve_leads fun p u => setMode_leads ..
  | flushDynamic => exact execFlushDynamic_leads h
  | flushStep => exact execFlushStep_leads h
  | configure => exact hnext h (serve_leads fun p u => configure_leads ..)
  | readConfig => exact hnext h (serve_reads fun _ _ => rfl)
  | writeRule => exact hnext h (serve_leads fun p u => writeRule_leads ..)
  | readRule => exact hnext h (serve_reads fun p u => by unfold State.readRule; split <;> rfl)
  | writeGroup => exact hnext h (serve_leads fun p u => writeGroup_leads ..)
  | readGroup => exact hnext h (serve_reads fun p u => by unfold State.readGroup; split <;> rfl)
  | readClaim => exact hnext h (serve_reads fun p u => by unfold State.readClaim; split <;> rfl)
  | segmentControl => exact hnext h (serve_leads fun p u => segmentControl_leads ..)
  | readSegment => exact hnext h (serve_reads fun p u => by unfold State.readSegment; split <;> rfl)
  | announce n =>
    refine hnext h (onFrame_leads fun source m u t ht => ?_)
    cases m <;> cases ht
    exact announceTaken_leads ..
  | accept n =>
    refine hnext h (onFrame_leads fun source m u t ht => ?_)
    cases m <;> cases ht
    exact acceptTaken_leads ..
  | decline n =>
    refine hnext h (onFrame_leads fun source m u t ht => ?_)
    cases m <;> cases ht
    exact declineTaken_leads ..
  | heartbeat n =>
    refine hnext h (onFrame_leads fun source m u t ht => ?_)
    cases m <;> cases ht
    exact heartbeatTaken_leads ..
  | release n =>
    refine hnext h (onFrame_leads fun source m u t ht => ?_)
    cases m <;> cases ht
    exact releaseTaken_leads ..
  | resolveId n =>
    refine hnext h (onFrame_leads fun source m u t ht => ?_)
    split at ht <;> cases ht
    exact resolveTaken_leads ..
  | resolveAddress n =>
    refine hnext h (onFrame_leads fun source m u t ht => ?_)
    split at ht <;> cases ht
    exact resolveTaken_leads ..
  | resolveGroup n =>
    refine hnext h (onFrame_leads fun source m u t ht => ?_)
    split at ht <;> cases ht
    exact resolveTaken_leads ..
  | faultNotice n =>
    refine hnext h ?_
    split
    · split
      · exact (withdrawSegment_leads _ n).fromQuiet rfl
      · exact .refl s
    · exact .refl s
  | transmitNotice n =>
    refine hnext h ?_
    split
    · split
      · exact (noteSent_leads _ _).fromQuiet rfl
      · exact .refl s
    · exact .refl s
  | dropNotice n =>
    refine hnext h ?_
    split
    · split
      · exact (noteDropped_leads _ _ _).fromQuiet rfl
      · exact .refl s
    · exact .refl s
  | millisecond =>
    refine hnext h ?_
    split
    · exact completeMillisecond_leads s
    · exact .refl s
  | offerWindowRunOut k => exact hnext h (TableStep.runOutWindow k).leads
  | claimExpiry =>
    refine hnext h ?_
    split
    · exact .trans (pointTo_leads s .timer) (TableStep.withdraw _).leads
    · exact .refl s
  | agingTick =>
    refine hnext h ?_
    split
    · exact (deliverTick_leads _).fromQuiet rfl
    · exact .refl s
  | holdListStep =>
    refine hnext h ?_
    split
    · exact .trans (pointTo_leads s .timer) (holdListStep_leads _)
    · exact .refl s
  | holdEntryExpiry =>
    refine hnext h ?_
    split
    · split
      · exact .trans (pointTo_leads s .timer) (holdListStep_leads _)
      · exact .refl s
    · exact .refl s
  | sweepVisit =>
    refine hnext h ?_
    split
    · exact sweepVisit_leads s _
    · exact .refl s
  | leaseRunOut =>
    refine hnext h ?_
    split
    · split
      · exact sweepVisit_leads s _
      · exact .refl s
    · exact .refl s
  | staleWindowRunOut =>
    refine hnext h ?_
    split
    · split
      · exact sweepVisit_leads s _
      · exact .refl s
    · exact .refl s
  | lineStuck n => exact hnext h (by split <;> exact .quiet rfl)
  | _ => exact hnext h (.quiet rfl)

/-- What every change of the tables keeps, and the queue of commands does not touch, every step keeps. -/
theorem step_keeps {P : State → Prop} (hstep : ∀ s t, TableStep s t → P s → P t) {s t : State} (h : step s = .next t) :
    P s → P t := by
  unfold step at h
  split at h
  · cases h; exact (refclkPeriod_leads s).keeps hstep
  · next c rest _ =>
    exact (Leads.trans (Leads.quiet (s := s) (t := { s with pending := rest }) rfl) (exec_leads h)).keeps hstep

end Sys2Proof.Machine
end

section
/-! PROOF. The attention count and the member counts follow the records through every step (R15, R17, R83): O55. -/

namespace Sys2Proof.Machine

/-! ### What keeps the counts -/

/-- The records with the two kinds of counts that follow them. -/
def State.tally (s : State) : Vector Record 256 × Nat × Vector Nat 16 :=
  (s.records, s.engine.attnCount, s.groups.map (·.members))

/-- A property of the records and their counts that the writing of a record keeps. -/
structure KeptByWrites (P : State → Prop) : Prop where
  congr : ∀ {s t : State}, t.tally = s.tally → P s → P t
  write : ∀ {s : State} (i : RecNo) (r : Record), P s → P (s.setRecord i r)

theorem KeptByWrites.withdrawForConversion {P : State → Prop} (hP : KeptByWrites P) {s : State} (r : Record)
    (keep : Option Address) : P s → P (s.withdrawForConversion r keep) := by
  refine hP.congr ?_
  unfold State.withdrawForConversion
  split
  · rfl
  split
  · rfl
  · simp only
    split <;> rfl

theorem KeptByWrites.placeRecord {P : State → Prop} (hP : KeptByWrites P) {s : State} (i : RecNo) (r : Record)
    (h : P s) : P (s.placeRecord i r) := by
  refine hP.write i _ (hP.congr ?_ h)
  split <;> rfl

theorem tally_releaseByMode (s : State) (r : Record) (hold : Bool) : (s.releaseByMode r hold).tally = s.tally := by
  unfold State.releaseByMode State.holdAddressOf State.freeAddressOf
  split <;> split <;> rfl

theorem KeptByWrites.withdraw {P : State → Prop} (hP : KeptByWrites P) {s : State} (k : SlotNo) (h : P s) :
    P (s.withdraw k) := by
  unfold State.withdraw
  split
  · exact hP.congr (s := s) rfl h
  · exact hP.write _ _ (hP.congr (s := s) rfl h)

/-- Every change of the tables writes records, and touches the counts in no other way. -/
theorem KeptByWrites.step {P : State → Prop} (hP : KeptByWrites P) (hreset : P State.reset) {s t : State}
    (h : TableStep s t) (hs : P s) : P t := by
  have keep {u v : State} (hu : P u) (huv : v.tally = u.tally) : P v := hP.congr huv hu
  cases h with
  | quiet h => exact keep hs (congrArg (fun c : Core => (c.records, c.attnCount, c.members)) h)
  | reset h => exact keep hreset (congrArg (fun c : Core => (c.records, c.attnCount, c.members)) h)
  | amend i new _ => exact hP.write i new hs
  | clear i _ => exact hP.write i _ hs
  | release i hold _ => exact hP.write i _ (keep hs (tally_releaseByMode s _ hold))
  | tombstone i why _ hk =>
    rw [State.endBinding, if_neg hk]
    exact keep (hP.write i _ hs) (tally_releaseByMode _ _ true)
  | placeStatic id a cls groups lease i => exact keep (hP.placeRecord i _ hs) rfl
  | convertStatic id a cls groups lease i => exact hP.write i _ (keep (hP.withdrawForConversion _ _ hs) rfl)
  | placeDenied id i => exact hP.placeRecord i _ hs
  | convertDenied id i => exact hP.write i _ (hP.withdrawForConversion _ _ hs)
  | retirePending i _ => exact hP.write i _ (hP.withdrawForConversion _ _ hs)
  | withdraw k => exact hP.withdraw k hs
  | createClaim d id cls preferred n source k i a => exact keep (hP.placeRecord i (d.pendingRecord id a n k) hs) rfl
  | repeatOffer k c n source _ => exact hP.write c.record _ (keep hs rfl)
  | commit k c n _ =>
    have hfreed : P ((s.removeOffers c.nonce).freeSlot k) := keep hs rfl
    exact keep (hP.write c.record _ hfreed) rfl
  | reoffer k c a n source _ _ =>
    have hheld : P (s.holdDeclined c) := keep hs rfl
    generalize s.holdDeclined c = h at hheld ⊢
    have htaken : P (((((h.removeOffers c.nonce).withSlot k (some { c with
        phase := .sending, address := a, nonce := h.engine.nonce, declines := c.declines + 1, segment := n,
        replyTo := source, window := h.fullWindow })).cancelExpiry k).withPool (h.pool.take a (.offered c.record)))) :=
      keep hheld rfl
    exact keep (hP.write c.record _ htaken) rfl
  | endDeclined k c _ => exact hP.write c.record _ (keep hs rfl)
  | runOutWindow k =>
    refine keep hs ?_
    unfold State.runOutWindow
    split
    · rfl
    · split <;> rfl
  | _ => exact keep hs rfl

/-! ### The two counts -/

theorem countP_set_records (records : Vector Record 256) (i : RecNo) (r : Record) (p : Record → Bool) :
    (records.set i r).toList.countP p + (if p records[i] then 1 else 0)
      = records.toList.countP p + (if p r then 1 else 0) := by
  have hi : i.val < records.toList.length := by simp
  rw [Vector.toList_set, List.countP_set hi]
  have hle : (if p records[i] then 1 else 0) ≤ records.toList.countP p := by
    split
    · next h => exact List.countP_pos_iff.mpr ⟨records[i], by simp, h⟩
    · exact Nat.zero_le _
  have : records.toList[i.val] = records[i] := by simp
  rw [this]
  omega

theorem attentive_eq (r : Record) : r.attentive = if r.attention != 0 then 1 else 0 := by
  by_cases h : r.attention = 0 <;> simp [Record.attentive, h]

theorem attentionExact_kept : KeptByWrites AttentionExact where
  congr h hs := by
    simp only [State.tally, Prod.mk.injEq] at h
    obtain ⟨hr, ha, _⟩ := h
    rw [AttentionExact, hr, ha]; exact hs
  write {s} i r hs := by
    have hset := countP_set_records s.records i r (·.attention != 0)
    rw [AttentionExact] at hs ⊢
    rw [setRecord_attnCount, attentive_eq, attentive_eq, hs]
    show _ = (s.records.set i r).toList.countP (·.attention != 0)
    omega

theorem members_getElem (s : State) (g : GroupNo) : (s.groups.map (·.members))[g] = s.groups[g].members := by simp

theorem membersExact_kept : KeptByWrites MembersExact where
  congr {s t} h hs g := by
    simp only [State.tally, Prod.mk.injEq] at h
    obtain ⟨hr, _, hm⟩ := h
    rw [← members_getElem t, hm, members_getElem, hr]; exact hs g
  write {s} i r hs g := by
    have hset := countP_set_records s.records i r fun r => r.counted && r.groups.getLsbD g
    have hs := hs g
    rw [setRecord_groups]
    show s.groups[g].members + r.countsFor g - s.records[i].countsFor g
      = (s.records.set i r).toList.countP fun r => r.counted && r.groups.getLsbD g
    rw [Record.countsFor, Record.countsFor, hs]
    omega

theorem attentionExact_reset : AttentionExact State.reset := by
  show 0 = (Vector.replicate 256 Record.empty).toList.countP _
  rw [Vector.toList_replicate, List.countP_replicate]
  rfl

theorem membersExact_reset : MembersExact State.reset := by
  intro g
  have hg : State.reset.groups[g] = Group.reset := Vector.getElem_replicate _
  rw [hg]
  show 0 = (Vector.replicate 256 Record.empty).toList.countP _
  rw [Vector.toList_replicate, List.countP_replicate]
  rfl

/-- Settles O55: every step is made of record writes, which the two counts follow. -/
theorem stepKeepsCountsExact : Obligations.StepKeepsCountsExact := by
  refine ⟨fun r => ⟨?_, rfl, fun g => ?_⟩, fun s t h => ⟨?_, ?_⟩⟩
  · rw [counted_eq_bound, bound_iff, live_iff]
  · simp [Record.countsFor]
  · exact step_keeps (fun _ _ => attentionExact_kept.step attentionExact_reset) h
  · exact step_keeps (fun _ _ => membersExact_kept.step membersExact_reset) h

end Sys2Proof.Machine
end

section
/-! PROOF. Records, claims and pool stay in agreement when one record changes together with its slot and its address
(R3, R30, R90). -/

namespace Sys2Proof.Machine

/-! ### Addresses and the records that own them -/

/-- What AddressesAgree says of a pool and the records, read by index. -/
abbrev OwnersAgree (recs : RecNo → Record) (p : Pool) : Prop :=
  ∀ (a : Address) (i : RecNo),
    (p.map[a.toFin] = .offered i ↔ (recs i).state = .pending ∧ (recs i).address = some a)
      ∧ (p.map[a.toFin] = .bound i ↔ (recs i).bound = true ∧ (recs i).address = some a)

/-- A record owns an address: it is offered the address, or holds it bound. -/
def Record.owns (r : Record) (a : Address) : Prop := (r.state = .pending ∨ r.bound = true) ∧ r.address = some a

/-- The place in the map of an address that a record owns. -/
theorem OwnersAgree.place {recs : RecNo → Record} {p : Pool} (h : OwnersAgree recs p) {i : RecNo} {a : Address}
    (ho : (recs i).owns a) : p.map[a.toFin] = .offered i ∨ p.map[a.toFin] = .bound i := by
  obtain ⟨h1 | h1, h2⟩ := ho
  · exact .inl ((h a i).1.mpr ⟨h1, h2⟩)
  · exact .inr ((h a i).2.mpr ⟨h1, h2⟩)

/-- An address has one owner. -/
theorem OwnersAgree.owner_unique {recs : RecNo → Record} {p : Pool} (h : OwnersAgree recs p) {i j : RecNo} {a : Address}
    (hi : (recs i).owns a) (hj : (recs j).owns a) : i = j := by
  rcases h.place hi with hi | hi <;> rcases h.place hj with hj | hj <;> rw [hi] at hj <;> cases hj <;> rfl

/-- A record that owns an address gives it up, to whatever list takes it. -/
theorem OwnersAgree.release {recs : RecNo → Record} {p q : Pool} (h : OwnersAgree recs p) {i : RecNo} {a : Address}
    {r : Record} (ho : (recs i).owns a) (hr : ∀ b, ¬r.owns b) (hq : p.Releases q a) :
    OwnersAgree (Function.update recs i r) q := by
  intro b j
  rw [hq b (.offered j) rfl, hq b (.bound j) rfl, (h b j).1, (h b j).2]
  by_cases hj : j = i
  · subst hj
    rw [Function.update_self]
    have hb : ¬(a ≠ b ∧ (recs j).address = some b) := fun hb => hb.1 (Option.some.inj (ho.2.symm.trans hb.2))
    refine ⟨iff_of_false (fun hl => hb ⟨hl.1, hl.2.2⟩) fun hl => hr b ⟨.inl hl.1, hl.2⟩,
      iff_of_false (fun hl => hb ⟨hl.1, hl.2.2⟩) fun hl => hr b ⟨.inr hl.1, hl.2⟩⟩
  · rw [Function.update_of_ne hj]
    refine ⟨and_iff_right_of_imp fun hl hab => hj ?_, and_iff_right_of_imp fun hl hab => hj ?_⟩
    · exact h.owner_unique (a := b) ⟨.inl hl.1, hl.2⟩ (hab ▸ ho)
    · exact h.owner_unique (a := b) ⟨.inr hl.1, hl.2⟩ (hab ▸ ho)

/-- A record takes an address that no other record owns, where it owned none but this. -/
theorem OwnersAgree.take {recs : RecNo → Record} {p : Pool} (h : OwnersAgree recs p) {i : RecNo} {a : Address}
    {place : Place} {r : Record} (ha : assignable a = true) (hold : ∀ b, (recs i).owns b → b = a)
    (hother : ∀ j, j ≠ i → ¬(recs j).owns a) (haddress : r.address = some a)
    (hoffered : place = .offered i ↔ r.state = .pending) (hbound : place = .bound i ↔ r.bound = true)
    (hplace : place = .offered i ∨ place = .bound i) :
    OwnersAgree (Function.update recs i r) (p.take a place) := by
  intro b j
  rw [take_map p place ha]
  by_cases hj : j = i
  · subst hj
    rw [Function.update_self, haddress]
    by_cases hb : a = b
    · subst hb; simp [hoffered, hbound]
    · rw [if_neg hb, (h b j).1, (h b j).2]
      have hba : some a ≠ some b := fun h => hb (Option.some.inj h)
      exact ⟨iff_of_false (fun hl => hb (hold b ⟨.inl hl.1, hl.2⟩).symm) fun hl => hba hl.2,
        iff_of_false (fun hl => hb (hold b ⟨.inr hl.1, hl.2⟩).symm) fun hl => hba hl.2⟩
  · rw [Function.update_of_ne hj]
    by_cases hb : a = b
    · subst hb
      rw [if_pos rfl]
      have hne : place ≠ .offered j ∧ place ≠ .bound j := by
        rcases hplace with rfl | rfl <;> simp [Ne.symm hj]
      exact ⟨iff_of_false hne.1 fun hl => hother j hj ⟨.inl hl.1, hl.2⟩,
        iff_of_false hne.2 fun hl => hother j hj ⟨.inr hl.1, hl.2⟩⟩
    · rw [if_neg hb]; exact h b j

/-- A record that owns what it owned before leaves the agreement as it is. -/
theorem OwnersAgree.amend {recs : RecNo → Record} {p : Pool} (h : OwnersAgree recs p) {i : RecNo} {r : Record}
    (hpending : r.state = .pending ↔ (recs i).state = .pending) (hbound : r.bound = (recs i).bound)
    (haddress : r.address = (recs i).address) : OwnersAgree (Function.update recs i r) p := by
  intro b j
  by_cases hj : j = i
  · subst hj; rw [Function.update_self, hpending, hbound, haddress]; exact h b j
  · rw [Function.update_of_ne hj]; exact h b j

/-- A record that owned nothing and owns nothing leaves the agreement as it is. -/
theorem OwnersAgree.ownless {recs : RecNo → Record} {p : Pool} (h : OwnersAgree recs p) {i : RecNo} {r : Record}
    (hold : ∀ b, ¬(recs i).owns b) (hnew : ∀ b, ¬r.owns b) : OwnersAgree (Function.update recs i r) p := by
  intro b j
  by_cases hj : j = i
  · subst hj
    rw [Function.update_self, (h b j).1, (h b j).2]
    exact ⟨iff_of_false (fun hl => hold b ⟨.inl hl.1, hl.2⟩) fun hl => hnew b ⟨.inl hl.1, hl.2⟩,
      iff_of_false (fun hl => hold b ⟨.inr hl.1, hl.2⟩) fun hl => hnew b ⟨.inr hl.1, hl.2⟩⟩
  · rw [Function.update_of_ne hj]; exact h b j

/-- The pool may move what no record owns. -/
theorem OwnersAgree.pool {recs : RecNo → Record} {p q : Pool} (h : OwnersAgree recs p)
    (hq : ∀ (b : Address) (x : Place), x.isOwned = true → (q.map[b.toFin] = x ↔ p.map[b.toFin] = x)) :
    OwnersAgree recs q := by
  intro b j
  rw [hq b (.offered j) rfl, hq b (.bound j) rfl]; exact h b j

/-! ### Claims and their records -/

theorem records_congr (s : State) {i j : RecNo} (h : i = j) : s.records[i] = s.records[j] := by rw [h]

/-- A slot and a record go together: both free of a claim, or a claim and its PENDING record. -/
def Paired (k : SlotNo) (slot : Option Claim) (i : RecNo) (r : Record) : Prop :=
  match slot with
  | none => r.state ≠ .pending
  | some c => c.record = i ∧ r.state = .pending ∧ r.slot = some k ∧ r.id = some c.id ∧ r.segment = some c.segment
      ∧ r.address = some c.address

/-- A slot and a record that go together change together. -/
theorem claimsAgree_of_pair {s t : State} {k : SlotNo} {i : RecNo} (h : ClaimsAgree s)
    (hbefore : Paired k s.slots[k] i s.records[i]) (hafter : Paired k t.slots[k] i t.records[i])
    (hrecs : ∀ j : RecNo, j ≠ i → t.records[j] = s.records[j]) (hslots : ∀ l : SlotNo, l ≠ k → t.slots[l] = s.slots[l]) :
    ClaimsAgree t := by
  obtain ⟨hclaims, hpending⟩ := h
  refine ⟨fun l c hc => ?_, fun j hj => ?_⟩
  · by_cases hl : l = k
    · subst hl
      rw [hc] at hafter
      obtain ⟨rfl, h⟩ := hafter
      exact h
    · rw [hslots l hl] at hc
      have hcl := hclaims l c hc
      by_cases hci : c.record = i
      · -- the record of slot l would be the one that goes with slot k
        exfalso
        cases hk : s.slots[k] with
        | none => rw [hk] at hbefore; exact hbefore (hci ▸ hcl.1)
        | some c' =>
          rw [hk] at hbefore
          have := hbefore.2.2.1
          rw [← hci, hcl.2.1] at this
          exact hl (Option.some.inj this)
      · rw [hrecs _ hci]; exact hcl
  · by_cases hji : j = i
    · subst hji
      cases hk : t.slots[k] with
      | none => rw [hk] at hafter; exact absurd hj hafter
      | some c => rw [hk] at hafter; exact ⟨k, c, hk, hafter.1⟩
    · rw [hrecs j hji] at hj
      obtain ⟨l, c, hc, hcj⟩ := hpending j hj
      by_cases hl : l = k
      · subst hl
        rw [hc] at hbefore
        exact absurd (hcj.symm.trans hbefore.1) hji
      · exact ⟨l, c, (hslots l hl).trans hc, hcj⟩

/-- A record that is not PENDING changes with the claims as they are. -/
theorem claimsAgree_of_record {s t : State} {i : RecNo} (h : ClaimsAgree s) (hbefore : s.records[i].state ≠ .pending)
    (hafter : t.records[i].state ≠ .pending) (hrecs : ∀ j : RecNo, j ≠ i → t.records[j] = s.records[j])
    (hslots : t.slots = s.slots) : ClaimsAgree t := by
  obtain ⟨hclaims, hpending⟩ := h
  refine ⟨fun k c hc => ?_, fun j hj => ?_⟩
  · rw [hslots] at hc
    have hcl := hclaims k c hc
    rw [hrecs c.record fun he => hbefore (he ▸ hcl.1)]
    exact hcl
  · have hji : j ≠ i := fun he => hafter (he ▸ hj)
    rw [hrecs j hji] at hj
    rw [hslots]
    exact hpending j hj

/-- A PENDING record changes in nothing that its claim speaks of. -/
theorem claimsAgree_of_pendingRecord {s t : State} {i : RecNo} (h : ClaimsAgree s)
    (hsame : t.records[i].state = .pending ∧ t.records[i].slot = s.records[i].slot ∧ t.records[i].id = s.records[i].id
      ∧ t.records[i].segment = s.records[i].segment ∧ t.records[i].address = s.records[i].address)
    (hbefore : s.records[i].state = .pending)
    (hrecs : ∀ j : RecNo, j ≠ i → t.records[j] = s.records[j]) (hslots : t.slots = s.slots) : ClaimsAgree t := by
  obtain ⟨hclaims, hpending⟩ := h
  obtain ⟨hst, hsl, hid, hseg, hadd⟩ := hsame
  refine ⟨fun k c hc => ?_, fun j hj => ?_⟩
  · rw [hslots] at hc
    have hcl := hclaims k c hc
    by_cases hci : c.record = i
    · subst hci
      rw [hsl, hid, hseg, hadd]
      exact ⟨hst, hcl.2⟩
    · rw [hrecs c.record hci]; exact hcl
  · rw [hslots]
    by_cases hji : j = i
    · exact hpending j (hji ▸ hbefore)
    · exact hpending j (hrecs j hji ▸ hj)

/-- Claims change in nothing that their records speak of. -/
theorem claimsAgree_of_slots {s t : State} (h : ClaimsAgree s) (hrecs : t.records = s.records)
    (hslots : ∀ k : SlotNo, (t.slots[k] = none ∧ s.slots[k] = none) ∨ ∃ c c', s.slots[k] = some c ∧ t.slots[k] = some c'
      ∧ c'.record = c.record ∧ c'.id = c.id ∧ c'.segment = c.segment ∧ c'.address = c.address) : ClaimsAgree t := by
  obtain ⟨hclaims, hpending⟩ := h
  refine ⟨fun k c' hc' => ?_, fun j hj => ?_⟩
  · rcases hslots k with ⟨hn, _⟩ | ⟨c, d, hc, hd, hr, hi, hs, ha⟩
    · rw [hn] at hc'; cases hc'
    · rw [hc'] at hd
      cases hd
      rw [hrecs, records_congr s hr, hi, hs, ha]
      exact hclaims k c hc
  · rw [hrecs] at hj
    obtain ⟨k, c, hc, hcj⟩ := hpending j hj
    rcases hslots k with ⟨_, hn⟩ | ⟨d, c', hd, hc', hr, _⟩
    · rw [hn] at hc; cases hc
    · rw [hc] at hd
      cases hd
      exact ⟨k, c', hc', hr.trans hcj⟩

end Sys2Proof.Machine
end

section
/-! PROOF. Every change of the tables keeps them in agreement, and O57 from this. -/

namespace Sys2Proof.Machine

/-! ### Agreement of the tables after one record is written -/

theorem tablesAgree_congr {s t : State} (h : TablesAgree s) (hr : t.records = s.records) (hp : t.pool = s.pool)
    (hl : t.slots = s.slots) : TablesAgree t := by
  simpa only [TablesAgree, PoolAgrees, ClaimsAgree, RecordsComplete, AddressesAgree, hr, hp, hl] using h

theorem records_of_set {s t : State} {i : RecNo} {r : Record} (h : t.records = s.records.set i r) (j : RecNo) :
    t.records[j] = if i = j then r else s.records[j] := by
  simp [h, Vector.getElem_set, Fin.ext_iff]

/-- Agreement by its four parts, for a state in which one record was written. -/
theorem tablesAgree_of_write {s t : State} {i : RecNo} {r : Record} (hs : TablesAgree s)
    (hset : t.records = s.records.set i r) (hpool : t.pool.agrees) (hclaims : ClaimsAgree t) (hcomplete : r.complete)
    (howners : OwnersAgree (Function.update (fun j => s.records[j]) i r) t.pool) : TablesAgree t := by
  obtain ⟨_, _, hrecords, _⟩ := hs
  have hupdate : (fun j : RecNo => t.records[j]) = Function.update (fun j => s.records[j]) i r := by
    funext j
    rw [records_of_set hset, Function.update_apply]
    simp only [eq_comm]
  refine ⟨hpool, hclaims, fun j => ?_, ?_⟩
  · rw [records_of_set hset]
    split
    · exact hcomplete
    · exact hrecords j
  · rw [← hupdate] at howners
    exact howners

/-- What a record that owns an address tells of it. -/
theorem assignable_of_owns {s : State} (hs : TablesAgree s) {i : RecNo} {a : Address} (h : s.records[i].owns a) :
    assignable a = true := by
  obtain ⟨⟨_, _, _, _, _, hinvalid⟩, _, _, howners⟩ := hs
  refine Bool.of_not_eq_false fun ha => ?_
  have hmap := (hinvalid a).mpr ha
  rcases OwnersAgree.place (recs := fun j => s.records[j]) howners h with hp | hp <;> rw [hmap] at hp <;> cases hp

/-- A FREE, HELD or RESERVED address has no owner. -/
theorem not_owns_of_place {s : State} (hs : TablesAgree s) {a : Address} (h : (s.pool.map[a.toFin]).isOwned = false)
    (i : RecNo) : ¬s.records[i].owns a := by
  obtain ⟨_, _, _, howners⟩ := hs
  intro ho
  rcases OwnersAgree.place (recs := fun j => s.records[j]) howners ho with hp | hp <;> rw [hp] at h <;> cases h

theorem not_owns_of_retired {r : Record} (hc : r.complete) (h : r.state = .retired) (b : Address) : ¬r.owns b := by
  obtain ⟨hk, _⟩ := (complete_iff_of_retired h).mp hc
  simp [Record.owns, Record.bound, Record.live, hk, h]

theorem not_owns_empty (b : Address) : ¬Record.empty.owns b := by simp [Record.owns, Record.empty]

theorem not_owns_of_bar {r : Record} (hs : r.state = .dormant) (hk : r.kind ≠ .static) (b : Address) : ¬r.owns b := by
  simp [Record.owns, Record.bound, Record.live, hs, hk]

/-- The record of a way that a placement takes owns nothing and is not PENDING. -/
theorem placementWay_ownless {s : State} (hs : TablesAgree s) {id : ModuleId} {i : RecNo}
    (h : s.placementWay id = some i) : s.records[i].state ≠ .pending ∧ ∀ b, ¬s.records[i].owns b := by
  obtain ⟨_, _, hrecords, _⟩ := hs
  rcases (placementWay_eq_some h).2 with he | hr
  · exact ⟨by rw [he]; decide, fun b => by rw [(hrecords i).2.1 he]; exact not_owns_empty b⟩
  · exact ⟨by rw [hr]; decide, not_owns_of_retired (hrecords i) hr⟩

/-! ### A claim and its record -/

/-- What a busy slot tells of its record, and its record of the pool. -/
theorem claim_facts {s : State} (hs : TablesAgree s) {k : SlotNo} {c : Claim} (hc : s.slots[k] = some c) :
    Paired k s.slots[k] c.record s.records[c.record] ∧ s.records[c.record].owns c.address
      ∧ assignable c.address = true := by
  obtain ⟨hst, hslot, hid, hseg, haddress⟩ := hs.2.1.1 k c hc
  have howns : s.records[c.record].owns c.address := ⟨.inl hst, haddress⟩
  exact ⟨by rw [hc]; exact ⟨rfl, hst, hslot, hid, hseg, haddress⟩, howns, assignable_of_owns hs howns⟩

/-- The claim of a PENDING record. -/
theorem claim_of_pending {s : State} (hs : TablesAgree s) {i : RecNo} (h : s.records[i].state = .pending) :
    ∃ k c, s.records[i].slot = some k ∧ s.slots[k] = some c ∧ c.record = i := by
  obtain ⟨k, c, hc, rfl⟩ := hs.2.1.2 i h
  exact ⟨k, c, (hs.2.1.1 k c hc).2.1, hc, rfl⟩

theorem slots_of_set {s t : State} {k : SlotNo} {c : Option Claim} (h : t.slots = s.slots.set k c) (l : SlotNo) :
    t.slots[l] = if k = l then c else s.slots[l] := by
  simp [h, Vector.getElem_set, Fin.ext_iff]

theorem claimsAgree_of_sets {s t : State} {k : SlotNo} {i : RecNo} {r : Record} {c : Option Claim}
    (h : ClaimsAgree s) (hset : t.records = s.records.set i r) (hslots : t.slots = s.slots.set k c)
    (hbefore : Paired k s.slots[k] i s.records[i]) (hafter : Paired k c i r) : ClaimsAgree t := by
  refine claimsAgree_of_pair h hbefore ?_ (fun j hj => ?_) fun l hl => ?_
  · rw [slots_of_set hslots, records_of_set hset, if_pos rfl, if_pos rfl]; exact hafter
  · rw [records_of_set hset, if_neg (Ne.symm hj)]
  · rw [slots_of_set hslots, if_neg (Ne.symm hl)]

theorem claimsAgree_of_set {s t : State} {i : RecNo} {r : Record} (h : ClaimsAgree s)
    (hset : t.records = s.records.set i r) (hslots : t.slots = s.slots) (hbefore : s.records[i].state ≠ .pending)
    (hafter : r.state ≠ .pending) : ClaimsAgree t := by
  refine claimsAgree_of_record h hbefore ?_ (fun j hj => ?_) hslots
  · rw [records_of_set hset, if_pos rfl]; exact hafter
  · rw [records_of_set hset, if_neg (Ne.symm hj)]

theorem bound_of_pending {r : Record} (hk : r.kind = .dynamic) (hs : r.state = .pending) : r.bound = false := by
  simp [Record.bound, Record.live, hk, hs]

/-- A claim ends: its slot is FREE, its record owns nothing, and its address goes to a list. -/
theorem tablesAgree_of_claimEnd {s t : State} {k : SlotNo} {c : Claim} {r : Record} (hs : TablesAgree s)
    (hc : s.slots[k] = some c) (hset : t.records = s.records.set c.record r) (hslots : t.slots = s.slots.set k none)
    (hpool : t.pool.agrees) (hreleases : s.pool.Releases t.pool c.address) (hcomplete : r.complete)
    (hpending : r.state ≠ .pending) (hr : ∀ b, ¬r.owns b) : TablesAgree t := by
  obtain ⟨hpair, howns, _⟩ := claim_facts hs hc
  exact tablesAgree_of_write hs hset hpool (claimsAgree_of_sets hs.2.1 hset hslots hpair hpending) hcomplete
    (OwnersAgree.release hs.2.2.2 howns hr hreleases)

/-- The claim of a PENDING record is withdrawn for a conversion: what the slot and the pool become. -/
theorem withdrawForConversion_eq {s : State} {r : Record} {k : SlotNo} {c : Claim} (keep : Option Address)
    (hk : r.slot = some k) (hc : s.slots[k] = some c) :
    s.withdrawForConversion r keep = ((s.removeOffers c.nonce).freeSlot k).withPool
      (if keep = some c.address then s.pool else s.pool.toHead c.address) := by
  simp only [State.withdrawForConversion, hk, hc]
  split <;> rfl

/-! ### Each change -/

theorem tablesAgree_amend {s : State} (hs : TablesAgree s) {i : RecNo} {new : Record}
    (h : Amends s.config s.records[i] new) : TablesAgree (s.setRecord i new) := by
  have hset : (s.setRecord i new).records = s.records.set i new := rfl
  have hpending : new.state = .pending ↔ s.records[i].state = .pending := by
    exact h.pending.elim (fun h => iff_of_false h.2 h.1) fun h => iff_of_true h.2.1 h.1
  refine tablesAgree_of_write hs hset hs.1 ?_ (h.complete (hs.2.2.1 i))
    (OwnersAgree.amend (recs := fun j => s.records[j]) hs.2.2.2 hpending (h.bound (hs.2.2.1 i)) h.address)
  rcases h.pending with ⟨h1, h2⟩ | ⟨h1, h2, hslot, hseg⟩
  · exact claimsAgree_of_set hs.2.1 hset rfl h1 h2
  · refine claimsAgree_of_pendingRecord (i := i) hs.2.1 ?_ h1 (fun j hj => ?_) rfl
    · rw [records_of_set hset, if_pos rfl]; exact ⟨h2, hslot, h.id, hseg, h.address⟩
    · rw [records_of_set hset, if_neg (Ne.symm hj)]

theorem tablesAgree_clear {s : State} (hs : TablesAgree s) {i : RecNo}
    (h : s.records[i].state = .retired ∨ (s.records[i].state = .dormant ∧ s.records[i].kind ≠ .static)) :
    TablesAgree (s.emptyRecord i) := by
  have hset : (s.emptyRecord i).records = s.records.set i Record.empty := rfl
  have hnot : s.records[i].state ≠ .pending ∧ ∀ b, ¬s.records[i].owns b := by
    rcases h with h | ⟨h, hk⟩
    · exact ⟨by rw [h]; decide, not_owns_of_retired (hs.2.2.1 i) h⟩
    · exact ⟨by rw [h]; decide, not_owns_of_bar h hk⟩
  exact tablesAgree_of_write hs hset hs.1 (claimsAgree_of_set hs.2.1 hset rfl hnot.1 (by decide)) complete_empty
    (OwnersAgree.ownless (recs := fun j => s.records[j]) hs.2.2.2 hnot.2 not_owns_empty)

/-- A record with a bound address. -/
theorem owns_of_binding {s : State} (hs : TablesAgree s) {i : RecNo}
    (h : s.records[i].live = true ∨ (s.records[i].state = .dormant ∧ s.records[i].kind = .static)) :
    ∃ a, s.records[i].address = some a ∧ s.records[i].owns a ∧ s.records[i].state ≠ .pending := by
  have hc := hs.2.2.1 i
  have hterms : s.records[i].bound = true ∧ s.records[i].hasTerms ∧ s.records[i].state ≠ .pending := by
    rcases h with h | ⟨h, hk⟩
    · exact ⟨bound_of_live h hc, ((complete_iff_of_live h).mp hc).2.1, not_pending_of_live h⟩
    · exact ⟨bound_iff.mpr (.inl hk), ((complete_iff_of_staticDormant hk h).mp hc).1, by rw [h]; decide⟩
  obtain ⟨hbound, ⟨_, _, haddress, _⟩, hpending⟩ := hterms
  obtain ⟨a, ha⟩ := Option.ne_none_iff_exists'.mp haddress
  exact ⟨a, ha, ⟨.inr hbound, ha⟩, hpending⟩

/-- Where the address of a record that ends goes: the pool agrees, and the address is released. -/
theorem releaseByMode_pool {s : State} (hs : TablesAgree s) {r : Record} {a : Address} (hold : Bool)
    (ha : r.address = some a) (hassign : assignable a = true) :
    (s.releaseByMode r hold).pool.agrees ∧ s.pool.Releases (s.releaseByMode r hold).pool a := by
  cases hold with
  | true =>
    simp only [State.releaseByMode, if_true, State.holdAddressOf, ha]
    exact ⟨toHold_agrees _ _ hs.1 hassign, toHold_releases _ _ hs.1 hassign⟩
  | false =>
    simp only [State.releaseByMode, Bool.false_eq_true, if_false, State.freeAddressOf, ha]
    exact ⟨toTail_agrees hs.1 hassign, toTail_releases _ hassign⟩

theorem releaseByMode_records (s : State) (r : Record) (hold : Bool) : (s.releaseByMode r hold).records = s.records := by
  unfold State.releaseByMode State.holdAddressOf State.freeAddressOf
  split <;> split <;> rfl

theorem releaseByMode_slots (s : State) (r : Record) (hold : Bool) : (s.releaseByMode r hold).slots = s.slots := by
  unfold State.releaseByMode State.holdAddressOf State.freeAddressOf
  split <;> split <;> rfl

theorem tablesAgree_release {s : State} (hs : TablesAgree s) {i : RecNo} (hold : Bool)
    (h : s.records[i].live = true ∨ (s.records[i].state = .dormant ∧ s.records[i].kind = .static)) :
    TablesAgree ((s.releaseByMode s.records[i] hold).emptyRecord i) := by
  obtain ⟨a, ha, howns, hpending⟩ := owns_of_binding hs h
  obtain ⟨hpool, hreleases⟩ := releaseByMode_pool hs hold ha (assignable_of_owns hs howns)
  have hset : ((s.releaseByMode s.records[i] hold).emptyRecord i).records = s.records.set i Record.empty := by
    rw [State.emptyRecord_records, releaseByMode_records]
  exact tablesAgree_of_write hs hset hpool
    (claimsAgree_of_set hs.2.1 hset (releaseByMode_slots _ _ _) hpending (by decide)) complete_empty
    (OwnersAgree.release (recs := fun j => s.records[j]) hs.2.2.2 howns not_owns_empty hreleases)

theorem tablesAgree_tombstone {s : State} (hs : TablesAgree s) {i : RecNo} (why : Reason)
    (hlive : s.records[i].live = true) (hk : s.records[i].kind ≠ .static) : TablesAgree (s.endBinding i why) := by
  obtain ⟨a, ha, howns, hpending⟩ := owns_of_binding hs (.inl hlive)
  obtain ⟨hkind, hterms, hseg, hslot⟩ := (complete_iff_of_live hlive).mp (hs.2.2.1 i)
  have hkind := hkind.resolve_right hk
  have hnew : ({ s.records[i].notify why with state := .retired, ticks := 0, groups := 0 } : Record).complete :=
    (complete_iff_of_retired rfl).mpr ⟨hkind, hterms, hseg, hslot, rfl, rfl, attention_or_ne_zero _ why⟩
  have hchanged := changed_complete (old := s.records[i]) hnew (by simp) hterms.2.1
  rw [State.endBinding, if_neg hk]
  have hpool := releaseByMode_pool hs true ha (assignable_of_owns hs howns)
  generalize hr : s.records[i].changed _ = r at hchanged
  have hset : ((s.changeRecord i { s.records[i].notify why with state := .retired, ticks := 0, groups := 0
      }).holdAddressOf s.records[i]).records = s.records.set i r := by
    rw [← hr]
    exact releaseByMode_records _ _ true
  have hstate : r.state = .retired := by rw [← hr]; rfl
  have hpooleq : ((s.changeRecord i { s.records[i].notify why with state := .retired, ticks := 0, groups := 0
      }).holdAddressOf s.records[i]).pool = (s.releaseByMode s.records[i] true).pool := by
    simp only [State.releaseByMode, if_true, State.holdAddressOf, ha]
    rfl
  rw [← hpooleq] at hpool
  exact tablesAgree_of_write hs hset hpool.1
    (claimsAgree_of_set hs.2.1 hset (releaseByMode_slots _ _ true) hpending (by rw [hstate]; decide)) hchanged
    (OwnersAgree.release (recs := fun j => s.records[j]) hs.2.2.2 howns (not_owns_of_retired hchanged hstate) hpool.2)

/-! ### Placements and conversions -/

theorem one_ne_zero_generation : (1 : BitVec 16) ≠ 0 := by decide

theorem placeRecord_records (s : State) (i : RecNo) (r : Record) :
    (s.placeRecord i r).records = s.records.set i { r with generation := 1 } := by
  rw [placeRecord_eq, State.setRecord_records]
  split <;> rfl

theorem placeRecord_pool (s : State) (i : RecNo) (r : Record) : (s.placeRecord i r).pool = s.pool := by
  rw [placeRecord_eq, State.setRecord_pool]
  split <;> rfl

theorem placeRecord_slots (s : State) (i : RecNo) (r : Record) : (s.placeRecord i r).slots = s.slots := by
  rw [placeRecord_eq, State.setRecord_slots]
  split <;> rfl

/-- An address that BIND_STATIC may bind is owned by nobody, or by the record that is converted. -/
theorem inUse_eq_none {p : Pool} {a : Address} {own : Option RecNo} (ha : assignable a = true)
    (h : p.inUse a own = none) (j : RecNo) :
    p.map[a.toFin] ≠ .bound j ∧ (p.map[a.toFin] = .offered j → own = some j) := by
  unfold Pool.inUse at h
  rw [placeOf_of_assignable p ha] at h
  split at h
  · next i hi =>
    split at h
    · next hown =>
      rw [hi]
      exact ⟨by simp, fun hj => by cases hj; exact hown⟩
    · cases h
  · cases h
  · next h1 h2 => exact ⟨h2 j, fun hj => absurd hj (h1 j)⟩

theorem not_owns_of_inUse {s : State} (hs : TablesAgree s) {a : Address} {own : Option RecNo}
    (ha : assignable a = true) (h : s.pool.inUse a own = none) {j : RecNo} (hj : own ≠ some j) :
    ¬s.records[j].owns a := by
  intro ho
  obtain ⟨hbound, hoffered⟩ := inUse_eq_none ha h j
  rcases OwnersAgree.place (recs := fun j => s.records[j]) hs.2.2.2 ho with hp | hp
  · exact hj (hoffered hp)
  · exact hbound hp

theorem tablesAgree_placeStatic {s : State} (hs : TablesAgree s) {id : ModuleId} {a cls : Byte} {groups : GroupSet}
    {lease : Byte} {i : RecNo} (ha : assignable a = true) (huse : s.pool.inUse a none = none)
    (hway : s.placementWay id = some i) :
    TablesAgree ((s.placeRecord i (Record.empty.madeStatic id a cls groups lease)).bindAddress a i) := by
  obtain ⟨hnotPending, hnotOwns⟩ := placementWay_ownless hs hway
  have hset := placeRecord_records s i (Record.empty.madeStatic id a cls groups lease)
  have hpool : ((s.placeRecord i (Record.empty.madeStatic id a cls groups lease)).bindAddress a i).pool
      = s.pool.take a (.bound i) := congrArg (·.take a (.bound i)) (placeRecord_pool s i _)
  have hcomplete : ({ Record.empty.madeStatic id a cls groups lease with generation := 1 } : Record).complete :=
    (complete_iff_of_staticDormant rfl rfl).mpr ⟨⟨by simp [Record.madeStatic], one_ne_zero_generation,
      by simp [Record.madeStatic], by simp [Record.madeStatic], by simp [Record.madeStatic]⟩, rfl, rfl⟩
  refine tablesAgree_of_write (i := i) hs hset ?_
    (claimsAgree_of_set hs.2.1 hset (placeRecord_slots s i (Record.empty.madeStatic id a cls groups lease)) hnotPending (by simp [Record.madeStatic])) hcomplete ?_
  · rw [hpool]; exact take_agrees hs.1 ha (by simp) (by simp) (by simp)
  · rw [hpool]
    exact OwnersAgree.take (recs := fun j => s.records[j]) hs.2.2.2 ha (fun b hb => absurd hb (hnotOwns b))
      (fun j _ => not_owns_of_inUse hs ha huse (by simp)) rfl (by simp [Record.madeStatic])
      (by simp [Record.madeStatic, Record.bound]) (.inr rfl)

theorem tablesAgree_placeDenied {s : State} (hs : TablesAgree s) {id : ModuleId} {i : RecNo}
    (hway : s.placementWay id = some i) : TablesAgree (s.placeRecord i (Record.empty.madeDenied id)) := by
  obtain ⟨hnotPending, hnotOwns⟩ := placementWay_ownless hs hway
  have hset := placeRecord_records s i (Record.empty.madeDenied id)
  refine tablesAgree_of_write (i := i) hs hset (by rw [placeRecord_pool]; exact hs.1)
    (claimsAgree_of_set hs.2.1 hset (placeRecord_slots s i (Record.empty.madeDenied id)) hnotPending (by simp [Record.madeDenied]))
    ((complete_iff_of_denied rfl).mpr ?_) ?_
  · simp [Record.madeDenied, Record.empty]
  · rw [placeRecord_pool]
    exact OwnersAgree.ownless (recs := fun j => s.records[j]) hs.2.2.2 hnotOwns
      (not_owns_of_bar rfl (by simp [Record.madeDenied]))

theorem changed_state (old new : Record) : (old.changed new).state = new.state := rfl
theorem changed_kind (old new : Record) : (old.changed new).kind = new.kind := rfl
theorem changed_address (old new : Record) : (old.changed new).address = new.address := rfl

/-- The generation of a record makes no difference to what it owns. -/
theorem changed_owns (old new : Record) (b : Address) : (old.changed new).owns b ↔ new.owns b := Iff.rfl

theorem tablesAgree_convertStatic {s : State} (hs : TablesAgree s) {id : ModuleId} {a cls : Byte} {groups : GroupSet}
    {lease : Byte} {i : RecNo} (ha : assignable a = true) (hpending : s.records[i].state = .pending)
    (huse : s.pool.inUse a (some i) = none) :
    TablesAgree (((s.withdrawForConversion s.records[i] (some a)).bindAddress a i).changeRecord i
      (s.records[i].madeStatic id a cls groups lease)) := by
  obtain ⟨k, c, hslot, hc, rfl⟩ := claim_of_pending hs hpending
  obtain ⟨hpair, howns, hassign⟩ := claim_facts hs hc
  obtain ⟨_, ⟨_, hgen, _⟩, _⟩ := (complete_iff_of_pending hpending).mp (hs.2.2.1 c.record)
  have hnew : (s.records[c.record].madeStatic id a cls groups lease).complete :=
    (complete_iff_of_staticDormant rfl rfl).mpr
      ⟨⟨by simp [Record.madeStatic], hgen, by simp [Record.madeStatic], by simp [Record.madeStatic],
        by simp [Record.madeStatic]⟩, rfl, rfl⟩
  rw [withdrawForConversion_eq (some a) hslot hc]
  have hother (j : RecNo) (hj : j ≠ c.record) : ¬s.records[j].owns a := not_owns_of_inUse hs ha huse (by simp [Ne.symm hj])
  have hbound (place : Place) (h : place = .bound c.record) :
      (place = .offered c.record ↔ (s.records[c.record].changed (s.records[c.record].madeStatic id a cls groups lease)).state = .pending)
        ∧ (place = .bound c.record ↔ (s.records[c.record].changed (s.records[c.record].madeStatic id a cls groups lease)).bound = true) := by
    subst h
    simp [Record.changed, Record.madeStatic, Record.bound]
  refine tablesAgree_of_write (i := c.record)
    (r := s.records[c.record].changed (s.records[c.record].madeStatic id a cls groups lease)) hs rfl ?_
    (claimsAgree_of_sets (k := k) (c := none) hs.2.1 rfl rfl hpair (by simp [Paired, Record.changed, Record.madeStatic]))
    (changed_complete hnew (by simp [Record.madeStatic]) hgen) ?_
  · show Pool.agrees (Pool.take (if some a = some c.address then s.pool else s.pool.toHead c.address) a (.bound c.record))
    split
    · exact take_agrees hs.1 ha (by simp) (by simp) (by simp)
    · exact take_agrees (toHead_agrees hs.1 hassign) ha (by simp) (by simp) (by simp)
  · show OwnersAgree _ (Pool.take (if some a = some c.address then s.pool else s.pool.toHead c.address) a (.bound c.record))
    split
    · next he =>
      -- the claim's own address is kept
      refine OwnersAgree.take (recs := fun j => s.records[j]) hs.2.2.2 ha (fun b hb => ?_) hother rfl
        (hbound _ rfl).1 (hbound _ rfl).2 (.inr rfl)
      exact Option.some.inj (hb.2.symm.trans (howns.2.trans he.symm))
    · next he =>
      -- the claim's address goes back to the free list before the other is taken
      have hfreed := OwnersAgree.release (recs := fun j => s.records[j]) hs.2.2.2 howns not_owns_empty
        (toHead_releases s.pool hassign)
      have htaken := OwnersAgree.take hfreed ha
        (r := s.records[c.record].changed (s.records[c.record].madeStatic id a cls groups lease))
        (i := c.record) (fun b hb => ?_) (fun j hj => ?_) rfl (hbound _ rfl).1 (hbound _ rfl).2 (.inr rfl)
      · rwa [Function.update_idem] at htaken
      · rw [Function.update_self] at hb; exact absurd hb (not_owns_empty b)
      · rw [Function.update_of_ne hj]; exact hother j hj

theorem tablesAgree_convertDenied {s : State} (hs : TablesAgree s) {id : ModuleId} {i : RecNo}
    (hpending : s.records[i].state = .pending) :
    TablesAgree ((s.withdrawForConversion s.records[i] none).changeRecord i (s.records[i].madeDenied id)) := by
  obtain ⟨k, c, hslot, hc, rfl⟩ := claim_of_pending hs hpending
  obtain ⟨_, _, hassign⟩ := claim_facts hs hc
  obtain ⟨_, ⟨_, hgen, _⟩, _⟩ := (complete_iff_of_pending hpending).mp (hs.2.2.1 c.record)
  have hnew : (s.records[c.record].madeDenied id).complete :=
    (complete_iff_of_denied rfl).mpr (by simpa [Record.madeDenied] using hgen)
  rw [withdrawForConversion_eq none hslot hc]
  exact tablesAgree_of_claimEnd hs hc (r := s.records[c.record].changed (s.records[c.record].madeDenied id)) rfl rfl
    (toHead_agrees hs.1 hassign) (toHead_releases _ hassign) (changed_complete hnew (by simp [Record.madeDenied]) hgen)
    (by simp [Record.changed, Record.madeDenied]) (not_owns_of_bar rfl (by simp [Record.changed, Record.madeDenied]))

theorem tablesAgree_retirePending {s : State} (hs : TablesAgree s) {i : RecNo}
    (hpending : s.records[i].state = .pending) :
    TablesAgree ((s.withdrawForConversion s.records[i] none).emptyRecord i) := by
  obtain ⟨k, c, hslot, hc, rfl⟩ := claim_of_pending hs hpending
  obtain ⟨_, _, hassign⟩ := claim_facts hs hc
  rw [withdrawForConversion_eq none hslot hc]
  exact tablesAgree_of_claimEnd hs hc rfl rfl (toHead_agrees hs.1 hassign) (toHead_releases _ hassign) complete_empty
    (by decide) not_owns_empty

/-! ### Claims -/

theorem tablesAgree_withdraw {s : State} (hs : TablesAgree s) (k : SlotNo) : TablesAgree (s.withdraw k) := by
  cases hc : s.slots[k] with
  | none =>
    have hk : s.withdraw k = s.freeSlot k := by simp only [State.withdraw, hc]
    have hslots : (s.freeSlot k).slots = s.slots := by
      rw [State.freeSlot_slots, ← hc]
      exact Vector.set_getElem_self _
    rw [hk]
    exact tablesAgree_congr hs rfl rfl hslots
  | some c =>
    obtain ⟨_, _, hassign⟩ := claim_facts hs hc
    rw [withdraw_eq hc]
    exact tablesAgree_of_claimEnd hs hc rfl rfl (toHead_agrees hs.1 hassign) (toHead_releases _ hassign) complete_empty
      (by decide) not_owns_empty

theorem firstFreeSlot_eq_some {s : State} {k : SlotNo} (h : s.firstFreeSlot = some k) : s.slots[k] = none := by
  simpa using List.find?_some h

/-- An address that allocation yields is owned by no record. -/
theorem not_owns_of_allocated {s : State} (hs : TablesAgree s) {a : Address}
    (h : s.pool.map[a.toFin] = .free ∨ s.pool.map[a.toFin] = .held) (j : RecNo) : ¬s.records[j].owns a :=
  not_owns_of_place hs (by rcases h with h | h <;> rw [h] <;> rfl) j

/-- An address that is FREE or HELD is assignable. -/
theorem assignable_of_allocated {p : Pool} (hp : p.agrees) {a : Address}
    (h : p.map[a.toFin] = .free ∨ p.map[a.toFin] = .held) : assignable a = true := by
  refine Bool.of_not_eq_false fun ha => ?_
  rw [(hp.2.2.2.2.2 a).mpr ha] at h
  simp at h

theorem tablesAgree_createClaim {s : State} (hs : TablesAgree s) {d : Terms} {id : ModuleId} {preferred : Byte}
    {n : SegNo} {source : Address} {k : SlotNo} {i : RecNo} {a : Address} (hslot : s.firstFreeSlot = some k)
    (hway : s.placementWay id = some i) (hallocate : s.pool.allocateFirst d.low d.high id preferred = some a) :
    TablesAgree (s.createClaim d id n source k i a) := by
  obtain ⟨hnotPending, hnotOwns⟩ := placementWay_ownless hs hway
  have hplace := allocateFirst_place hs.1 hallocate
  have ha := assignable_of_allocated hs.1 hplace
  have hset : (s.createClaim d id n source k i a).records
      = s.records.set i { d.pendingRecord id a n k with generation := 1 } := placeRecord_records s i _
  have hpool : (s.createClaim d id n source k i a).pool = s.pool.take a (.offered i) :=
    congrArg (·.take a (.offered i)) (placeRecord_pool s i _)
  have hslots : (s.createClaim d id n source k i a).slots = s.slots.set k (some
      { phase := .sending, record := i, id := id, segment := n, address := a, nonce := s.engine.nonce, repeats := 0,
        declines := 0, window := s.fullWindow, low := d.low, high := d.high, groups := d.groups, replyTo := source }) :=
    congrArg (fun v : Vector (Option Claim) 8 => v.set k _) (placeRecord_slots s i (d.pendingRecord id a n k))
  refine tablesAgree_of_write hs hset ?_ (claimsAgree_of_sets hs.2.1 hset hslots ?_ ?_)
    ((complete_iff_of_pending rfl).mpr ?_) ?_
  · rw [hpool]; exact take_agrees hs.1 ha (by simp) (by simp) (by simp)
  · rw [firstFreeSlot_eq_some hslot]; exact hnotPending
  · simp [Paired, Terms.pendingRecord]
  · simp [Terms.pendingRecord, Record.empty, Record.hasTerms]
  · rw [hpool]
    exact OwnersAgree.take (recs := fun j => s.records[j]) hs.2.2.2 ha (fun b hb => absurd hb (hnotOwns b))
      (fun j _ => not_owns_of_allocated hs hplace j) rfl (by simp [Terms.pendingRecord])
      (by simp [Terms.pendingRecord, Record.bound, Record.live]) (.inl rfl)

theorem tablesAgree_repeatOffer {s : State} (hs : TablesAgree s) {k : SlotNo} {c : Claim} {n : SegNo}
    {source : Address} (hc : s.slots[k] = some c) : TablesAgree (s.repeatOffer k c n source) := by
  obtain ⟨hpair, howns, _⟩ := claim_facts hs hc
  obtain ⟨hst, hslot, hid, _, haddress⟩ := hs.2.1.1 k c hc
  obtain ⟨hkind, hterms, _, hslot', hgroups, hticks⟩ := (complete_iff_of_pending hst).mp (hs.2.2.1 c.record)
  have hnew : ({ s.records[c.record] with segment := some n } : Record).complete :=
    (complete_iff_of_pending (r := { s.records[c.record] with segment := some n }) hst).mpr ⟨hkind, hterms, by simp, hslot', hgroups, hticks⟩
  exact tablesAgree_of_write (i := c.record)
    (r := s.records[c.record].changed { s.records[c.record] with segment := some n }) hs rfl hs.1
    (claimsAgree_of_sets (k := k) hs.2.1 rfl rfl hpair ⟨rfl, hst, hslot, hid, rfl, haddress⟩)
    (changed_complete hnew (by rw [hst]; decide) hterms.2.1)
    (OwnersAgree.amend (recs := fun j => s.records[j]) hs.2.2.2 Iff.rfl rfl rfl)

theorem tablesAgree_commit {s : State} (hs : TablesAgree s) {k : SlotNo} {c : Claim} {n : SegNo}
    (hc : s.slots[k] = some c) : TablesAgree (s.commit k c n) := by
  obtain ⟨hpair, howns, hassign⟩ := claim_facts hs hc
  obtain ⟨hst, hslot, hid, _, haddress⟩ := hs.2.1.1 k c hc
  obtain ⟨hkind, hterms, _⟩ := (complete_iff_of_pending hst).mp (hs.2.2.1 c.record)
  have hnew : ({ s.records[c.record].refresh.notify .learned with
      kind := .dynamic, segment := some n, groups := c.groups, slot := none } : Record).complete :=
    (complete_iff_of_live rfl).mpr ⟨.inl rfl, hterms, by simp, rfl⟩
  refine tablesAgree_of_write (i := c.record)
    (r := s.records[c.record].changed { s.records[c.record].refresh.notify .learned with
      kind := .dynamic, segment := some n, groups := c.groups, slot := none }) hs rfl
    (take_agrees hs.1 hassign (by simp) (by simp) (by simp))
    (claimsAgree_of_sets (k := k) (c := none) hs.2.1 rfl rfl hpair
      (by simp [Paired, Record.changed, Record.notify, Record.refresh]))
    (changed_complete hnew (by simp [Record.notify, Record.refresh]) hterms.2.1)
    (OwnersAgree.take (recs := fun j => s.records[j]) hs.2.2.2 hassign (fun b hb => ?_) (fun j hj ho => ?_) haddress
      ?_ ?_ (.inr rfl))
  · exact Option.some.inj (hb.2.symm.trans haddress)
  · exact hj (OwnersAgree.owner_unique (recs := fun j => s.records[j]) hs.2.2.2 ho howns)
  · simp [Record.changed, Record.notify, Record.refresh]
  · simp [Record.changed, Record.notify, Record.refresh, Record.bound, Record.live]

theorem holdDeclined_pool {s : State} (hs : TablesAgree s) {k : SlotNo} {c : Claim} (hc : s.slots[k] = some c) :
    (s.holdDeclined c).pool.agrees ∧ s.pool.Releases (s.holdDeclined c).pool c.address := by
  obtain ⟨_, _, hassign⟩ := claim_facts hs hc
  exact ⟨toHold_agrees _ _ hs.1 hassign, toHold_releases _ _ hs.1 hassign⟩

theorem tablesAgree_reoffer {s : State} (hs : TablesAgree s) {k : SlotNo} {c : Claim} {a : Address} {n : SegNo}
    {source : Address} (hc : s.slots[k] = some c) (hagain : (s.holdDeclined c).reofferAddress c = some a) :
    TablesAgree ((s.holdDeclined c).reoffer k c a n source) := by
  obtain ⟨hpair, howns, _⟩ := claim_facts hs hc
  obtain ⟨hst, hslot, hid, _, _⟩ := hs.2.1.1 k c hc
  obtain ⟨hpool, hreleases⟩ := holdDeclined_pool hs hc
  obtain ⟨hkind, ⟨hid', hgen, _, hcls, hlease⟩, _, hslot', hgroups, hticks⟩ :=
    (complete_iff_of_pending hst).mp (hs.2.2.1 c.record)
  have hplace : (s.holdDeclined c).pool.map[a.toFin] = .free ∨ (s.holdDeclined c).pool.map[a.toFin] = .held := by
    unfold State.reofferAddress at hagain
    split at hagain
    · exact (allocateFromLists_place hpool hagain).1
    · cases hagain
  have ha := assignable_of_allocated hpool hplace
  have hnew : ({ s.records[c.record] with address := some a, segment := some n } : Record).complete :=
    (complete_iff_of_pending (r := { s.records[c.record] with address := some a, segment := some n }) hst).mpr
      ⟨hkind, ⟨hid', hgen, by simp, hcls, hlease⟩, by simp, hslot', hgroups, hticks⟩
  have hfreed := OwnersAgree.release (recs := fun j => s.records[j]) hs.2.2.2 howns not_owns_empty hreleases
  have htaken := OwnersAgree.take hfreed ha (i := c.record) (place := .offered c.record)
    (r := s.records[c.record].changed { s.records[c.record] with address := some a, segment := some n })
    (fun b hb => ?_) (fun j hj hb => ?_) rfl (iff_of_true rfl hst)
    (iff_of_false (by simp) ?_) (.inl rfl)
  · rw [Function.update_idem] at htaken
    exact tablesAgree_of_write (i := c.record)
      (r := s.records[c.record].changed { s.records[c.record] with address := some a, segment := some n }) hs rfl
      (take_agrees hpool ha (by simp) (by simp) (by simp))
      (claimsAgree_of_sets (k := k) hs.2.1 rfl rfl hpair ⟨rfl, hst, hslot, hid, rfl, rfl⟩)
      (changed_complete hnew (by rw [hst]; decide) hgen) htaken
  · rw [Function.update_self] at hb; exact absurd hb (not_owns_empty b)
  · rcases OwnersAgree.place hfreed hb with hp | hp <;> rcases hplace with h | h <;> rw [hp] at h <;> cases h
  · show ¬s.records[c.record].bound = true
    rw [bound_of_pending hkind hst]; decide

theorem tablesAgree_endDeclined {s : State} (hs : TablesAgree s) {k : SlotNo} {c : Claim} (hc : s.slots[k] = some c) :
    TablesAgree ((s.holdDeclined c).endDeclined k c) := by
  obtain ⟨hpool, hreleases⟩ := holdDeclined_pool hs hc
  exact tablesAgree_of_claimEnd hs hc rfl rfl hpool hreleases complete_empty (by decide) not_owns_empty

/-! ### The pool and the windows -/

/-- The pool moves an address that no record owns, to a place that names none. -/
theorem tablesAgree_of_pool {s : State} (hs : TablesAgree s) {p : Pool} (hp : p.agrees)
    (hq : ∀ (b : Address) (x : Place), x.isOwned = true → (p.map[b.toFin] = x ↔ s.pool.map[b.toFin] = x)) :
    TablesAgree (s.withPool p) :=
  ⟨hp, hs.2.1, hs.2.2.1, OwnersAgree.pool (recs := fun j => s.records[j]) hs.2.2.2 hq⟩

theorem tablesAgree_reserve {s : State} (hs : TablesAgree s) {a : Address}
    (h : s.pool.placeOf a = .free ∨ s.pool.placeOf a = .held) :
    TablesAgree (s.withPool (s.pool.take a .reserved)) := by
  rw [placeOf_eq_map hs.1] at h
  have ha := assignable_of_allocated hs.1 h
  refine tablesAgree_of_pool hs (take_agrees hs.1 ha (by decide) (by decide) (by decide)) fun b x hx => ?_
  rw [take_map _ _ ha]
  split
  · next hb =>
    subst hb
    constructor
    · rintro rfl; cases hx
    · rintro rfl; rcases h with h | h <;> rw [h] at hx <;> cases hx
  · rfl

theorem tablesAgree_unreserve {s : State} (hs : TablesAgree s) {a : Address} (h : s.pool.placeOf a = .reserved) :
    TablesAgree (s.withPool (s.pool.toTail a)) := by
  rw [placeOf_eq_map hs.1] at h
  have ha : assignable a = true := Bool.of_not_eq_false fun ha => by
    rw [(hs.1.2.2.2.2.2 a).mpr ha] at h; cases h
  refine tablesAgree_of_pool hs (toTail_agrees hs.1 ha) fun b x hx => ?_
  rw [toTail_releases s.pool ha b x hx]
  refine and_iff_right_of_imp fun hb hab => ?_
  subst hab
  rw [← hb, h] at hx
  cases hx

theorem tablesAgree_countDown {s : State} (hs : TablesAgree s) : TablesAgree (s.withPool s.pool.countDown) :=
  tablesAgree_of_pool hs (countDown_agrees hs.1) fun b _ hx => countDown_owned hs.1 b hx

/-- A claim in slot k changes in nothing but its phase and its window. -/
theorem tablesAgree_of_window {s t : State} (hs : TablesAgree s) {k : SlotNo} {c c' : Claim} (hc : s.slots[k] = some c)
    (hr : t.records = s.records) (hp : t.pool = s.pool) (hslots : t.slots = s.slots.set k (some c'))
    (hsame : c'.record = c.record ∧ c'.id = c.id ∧ c'.segment = c.segment ∧ c'.address = c.address) : TablesAgree t := by
  have hclaims : ClaimsAgree t := by
    refine claimsAgree_of_slots hs.2.1 hr fun l => ?_
    rw [slots_of_set hslots]
    split
    · next hl => subst hl; exact .inr ⟨c, c', hc, rfl, hsame⟩
    · cases hl : s.slots[l] with
      | none => exact .inl ⟨rfl, rfl⟩
      | some d => exact .inr ⟨d, d, rfl, rfl, rfl, rfl, rfl, rfl⟩
  refine ⟨?_, hclaims, ?_, ?_⟩
  · rw [PoolAgrees, hp]; exact hs.1
  · simpa only [RecordsComplete, hr] using hs.2.2.1
  · simpa only [AddressesAgree, hr, hp] using hs.2.2.2

theorem Claim.countDown_same (c : Claim) : c.countDown.record = c.record ∧ c.countDown.id = c.id
    ∧ c.countDown.segment = c.segment ∧ c.countDown.address = c.address := by
  unfold Claim.countDown
  split <;> exact ⟨rfl, rfl, rfl, rfl⟩

theorem countWindows_slots (s : State) (k : SlotNo) : s.countWindows.slots[k] = s.slots[k].map Claim.countDown := by
  simp [State.countWindows]

theorem tablesAgree_countWindows {s : State} (hs : TablesAgree s) : TablesAgree s.countWindows := by
  refine ⟨hs.1, claimsAgree_of_slots hs.2.1 rfl fun k => ?_, hs.2.2.1, hs.2.2.2⟩
  rw [countWindows_slots]
  cases s.slots[k] with
  | none => exact .inl ⟨rfl, rfl⟩
  | some c => exact .inr ⟨c, c.countDown, rfl, rfl, c.countDown_same⟩

theorem tablesAgree_runOutWindow {s : State} (hs : TablesAgree s) (k : SlotNo) : TablesAgree (s.runOutWindow k) := by
  unfold State.runOutWindow
  split
  · exact hs
  · next c hc =>
    split
    · exact tablesAgree_of_window hs hc rfl rfl rfl ⟨rfl, rfl, rfl, rfl⟩
    · exact hs

/-! ### Reset, and every change -/

theorem assignable_iff_toNat {a : Address} : assignable a = true ↔ 1 ≤ a.toNat ∧ a.toNat ≤ 0xEF := by
  rw [assignable_iff]; bv_omega

theorem mem_assignableAddresses {a : Address} : a ∈ assignableAddresses ↔ assignable a = true := by
  rw [assignable_iff_toNat, assignableAddresses, List.mem_map]
  constructor
  · rintro ⟨k, hk, rfl⟩
    rw [List.mem_range] at hk
    rw [BitVec.toNat_ofNat, Nat.mod_eq_of_lt (by omega)]
    omega
  · rintro ⟨h1, h2⟩
    refine ⟨a.toNat - 1, List.mem_range.mpr (by omega), ?_⟩
    rw [Nat.sub_add_cancel h1, BitVec.ofNat_toNat, BitVec.setWidth_eq]

/-- The assignable addresses are 1 to 239, ascending. -/
theorem assignableAddresses_toNat : assignableAddresses.map BitVec.toNat = (List.range 239).map (· + 1) := by
  rw [assignableAddresses, List.map_map]
  refine List.map_congr_left fun k hk => ?_
  rw [List.mem_range] at hk
  exact Nat.mod_eq_of_lt (by omega)

theorem assignableAddresses_nodup : assignableAddresses.Nodup := by
  refine List.Nodup.of_map BitVec.toNat ?_
  rw [assignableAddresses_toNat]
  exact List.nodup_range.map fun _ _ h => Nat.succ.inj h

theorem reset_map (a : Address) :
    Pool.reset.map[a.toFin] = if 1 ≤ a.toNat ∧ a.toNat ≤ 0xEF then Place.free else .invalid := by
  rw [Fin.getElem_fin]
  exact tabulate_getElem _ _ _ _

theorem reset_pool_agrees : Pool.reset.agrees := by
  refine ⟨assignableAddresses_nodup, List.nodup_nil, Nat.zero_le _, fun a => ?_, fun a => ?_, fun a => ?_⟩
  · rw [reset_map, show Pool.reset.free = assignableAddresses from rfl, mem_assignableAddresses, assignable_iff_toNat]
    split <;> simp_all
  · rw [reset_map]
    split <;> simp [Pool.reset]
  · rw [reset_map, Bool.eq_false_iff, Ne, assignable_iff_toNat]
    split <;> simp_all

theorem reset_records (i : RecNo) : State.reset.records[i] = Record.empty := Vector.getElem_replicate _

theorem reset_slots (k : SlotNo) : State.reset.slots[k] = none := Vector.getElem_replicate _

theorem tablesAgree_reset : TablesAgree State.reset := by
  refine ⟨reset_pool_agrees, ⟨fun k c hc => ?_, fun i hi => ?_⟩, fun i => ?_, fun a i => ?_⟩
  · rw [reset_slots] at hc; cases hc
  · rw [reset_records] at hi; cases hi
  · rw [reset_records]; exact complete_empty
  · rw [reset_records, show State.reset.pool = Pool.reset from rfl, reset_map]
    split <;> simp [Record.empty]

/-- Every change of the tables keeps them in agreement. -/
theorem tablesAgree_step {s t : State} (h : TableStep s t) (hs : TablesAgree s) : TablesAgree t := by
  cases h with
  | quiet h =>
    exact tablesAgree_congr hs (congrArg Core.records h) (congrArg Core.pool h) (congrArg Core.slots h)
  | reset h =>
    exact tablesAgree_congr tablesAgree_reset (congrArg Core.records h) (congrArg Core.pool h) (congrArg Core.slots h)
  | amend i new h => exact tablesAgree_amend hs h
  | clear i h => exact tablesAgree_clear hs h
  | release i hold h => exact tablesAgree_release hs hold h
  | tombstone i why hlive hk => exact tablesAgree_tombstone hs why hlive hk
  | placeStatic id a cls groups lease i ha _ _ huse hway => exact tablesAgree_placeStatic hs ha huse hway
  | convertStatic id a cls groups lease i ha _ _ hp huse => exact tablesAgree_convertStatic hs ha hp huse
  | placeDenied id i _ hway => exact tablesAgree_placeDenied hs hway
  | convertDenied id i _ hp => exact tablesAgree_convertDenied hs hp
  | retirePending i hp => exact tablesAgree_retirePending hs hp
  | withdraw k => exact tablesAgree_withdraw hs k
  | createClaim d id cls preferred n source k i a _ hslot _ hway ha => exact tablesAgree_createClaim hs hslot hway ha
  | repeatOffer k c n source hc => exact tablesAgree_repeatOffer hs hc
  | commit k c n hc => exact tablesAgree_commit hs hc
  | reoffer k c a n source hc ha => exact tablesAgree_reoffer hs hc ha
  | endDeclined k c hc => exact tablesAgree_endDeclined hs hc
  | reserve a h => exact tablesAgree_reserve hs h
  | unreserve a h => exact tablesAgree_unreserve hs h
  | countDown => exact tablesAgree_countDown hs
  | noteSent k c hc => exact tablesAgree_of_window hs hc rfl rfl rfl ⟨rfl, rfl, rfl, rfl⟩
  | countWindows => exact tablesAgree_countWindows hs
  | runOutWindow k => exact tablesAgree_runOutWindow hs k
  | configure p c _ => exact tablesAgree_congr hs rfl rfl rfl
  | writeRule p k r _ => exact tablesAgree_congr hs rfl rfl rfl

/-- Settles O57: every step is made of changes that keep the tables in agreement. -/
theorem stepKeepsTablesAgreeing : Obligations.StepKeepsTablesAgreeing :=
  fun _ _ h => step_keeps (fun _ _ => tablesAgree_step) h

end Sys2Proof.Machine
end

section
/-! PROOF. What a change of the tables writes: at most one record, and what it takes from the record it replaces. With this,
the buckets and the distinct IDs (R1, R9: O58), and the leases that run (R2, R118). -/

namespace Sys2Proof.Machine

/-! ### The record written -/

/-- A record's lease is not 0, and while it is live its countdown is above 0. -/
def Record.runs (r : Record) : Prop := r.lease ≠ some 0 ∧ (r.live = true → r.ticks ≠ 0)

/-- How the records differ after one change of the tables. -/
inductive RecordWrites (s t : State) : Prop
  | none (h : t.records = s.records)
  | reset (h : t.records = State.reset.records)
  | emptied (i : RecNo) (h : t.records = s.records.set i Record.empty)
  /-- A record takes a new content under its ID. -/
  | amended (i : RecNo) (r : Record) (h : t.records = s.records.set i r) (hempty : s.records[i].state ≠ .empty)
      (hid : r.id = s.records[i].id) (hfindable : r.findable = true → s.records[i].findable = true)
      (hruns : SettingsInBounds s → s.records[i].runs → r.runs)
  /-- A record is placed for an ID that none holds. -/
  | placed (i : RecNo) (r : Record) (id : ModuleId) (h : t.records = s.records.set i r) (hlookup : s.lookup id = .none)
      (hway : s.placementWay id = some i) (hid : r.id = some id) (hruns : SettingsInBounds s → r.runs)

theorem runs_of_not_live {r : Record} (hlease : r.lease ≠ some 0) (h : r.live = false) : r.runs :=
  ⟨hlease, fun hl => by rw [h] at hl; cases hl⟩

theorem findable_of_pending {r : Record} (h : r.state = .pending) : r.findable = true := by simp [Record.findable, h]

theorem withdrawForConversion_records (s : State) (r : Record) (keep : Option Address) :
    (s.withdrawForConversion r keep).records = s.records := by
  unfold State.withdrawForConversion
  split
  · rfl
  split
  · rfl
  · simp only
    split <;> rfl

/-- The terms of an admission carry a lease above 0 (R66, R73). -/
theorem evaluate_lease {s : State} (hs : SettingsInBounds s) {n : SegNo} {id : ModuleId} {cls : Byte} {d : Terms}
    (h : s.evaluate n id cls = .ok d) : d.lease ≠ 0 := by
  obtain ⟨⟨_, _, _, hdefault, _⟩, hrules⟩ := hs
  unfold State.evaluate at h
  split at h
  · cases h
  split at h
  · next k _ =>
    split at h <;> cases h
    exact (hrules k).2.2.2
  · split at h <;> cases h
    exact hdefault

/-- A tombstone or a conversion takes its record over under its ID. -/
theorem writes_endBinding {s : State} {i : RecNo} (why : Reason) (hlive : s.records[i].live = true)
    (hk : s.records[i].kind ≠ .static) : RecordWrites s (s.endBinding i why) := by
  rw [State.endBinding, if_neg hk]
  refine .amended i (s.records[i].changed { s.records[i].notify why with state := .retired, ticks := 0, groups := 0 })
    (releaseByMode_records _ _ true) (not_empty_of_live hlive) rfl (fun h => ?_) fun _ h => runs_of_not_live h.1 rfl
  exact absurd h (by simp [Record.findable, Record.changed])

theorem writes_commit {s : State} (hs : TablesAgree s) {k : SlotNo} {c : Claim} {n : SegNo} (hc : s.slots[k] = some c) :
    RecordWrites s (s.commit k c n) := by
  obtain ⟨hst, _⟩ := hs.2.1.1 k c hc
  obtain ⟨_, hterms, _⟩ := (complete_iff_of_pending hst).mp (hs.2.2.1 c.record)
  exact .amended c.record (s.records[c.record].changed { s.records[c.record].refresh.notify .learned with
      kind := .dynamic, segment := some n, groups := c.groups, slot := none }) rfl (by rw [hst]; decide) rfl
    (fun _ => findable_of_pending hst) fun _ h => ⟨h.1, fun _ => lease_getD_ne_zero hterms h.1⟩

/-- A PENDING record stays PENDING under its ID and on its lease. -/
theorem writes_pending {s t : State} {i : RecNo} {r : Record} (hst : s.records[i].state = .pending)
    (h : t.records = s.records.set i (s.records[i].changed r)) (hid : r.id = s.records[i].id)
    (hlease : r.lease = s.records[i].lease) (hr : r.state = .pending) : RecordWrites s t :=
  .amended i _ h (by rw [hst]; decide) hid (fun _ => findable_of_pending hst) fun _ hruns =>
    runs_of_not_live (r := s.records[i].changed r) (by rw [Record.changed, hlease]; exact hruns.1)
      (by simp [Record.live, Record.changed, hr])

theorem countWindows_records (s : State) : s.countWindows.records = s.records := rfl

theorem runOutWindow_records (s : State) (k : SlotNo) : (s.runOutWindow k).records = s.records := by
  unfold State.runOutWindow
  split
  · rfl
  · split <;> rfl

/-- Over tables that agree, a change of them writes one record at most. -/
theorem TableStep.writes {s t : State} (h : TableStep s t) (hs : TablesAgree s) : RecordWrites s t := by
  cases h with
  | quiet h => exact .none (congrArg Core.records h)
  | reset h => exact .reset (congrArg Core.records h)
  | amend i new h =>
    have hc := hs.2.2.1 i
    exact .amended i new rfl (h.wasNotEmpty hc) h.id (fun hf => (h.findable hc).symm.trans hf) fun hset hr =>
      ⟨h.lease hr.1, h.ticks hset.1.2.2.2.2.1 hc hr.1 hr.2⟩
  | clear i _ => exact .emptied i rfl
  | release i hold _ => exact .emptied i (congrArg (·.set i Record.empty) (releaseByMode_records _ _ _))
  | tombstone i why hlive hk => exact writes_endBinding why hlive hk
  | placeStatic id a cls groups lease i _ hlease hlookup _ hway =>
    exact .placed i _ id (placeRecord_records s i _) hlookup hway rfl fun _ =>
      runs_of_not_live (fun h => hlease (Option.some.inj h)) rfl
  | convertStatic id a cls groups lease i _ hlease hlookup hp _ =>
    have hset : (((s.withdrawForConversion s.records[i] (some a)).bindAddress a i).changeRecord i
        (s.records[i].madeStatic id a cls groups lease)).records
        = s.records.set i (s.records[i].changed (s.records[i].madeStatic id a cls groups lease)) :=
      congrArg (fun v : Vector Record 256 => v.set i (v[i].changed _)) (withdrawForConversion_records s _ _)
    exact .amended i _ hset (by rw [hp]; decide) (lookup_eq_some hlookup).2.2.symm
      (fun _ => findable_of_pending hp) fun _ _ => runs_of_not_live (fun h => hlease (Option.some.inj h)) rfl
  | placeDenied id i hlookup hway =>
    exact .placed i _ id (placeRecord_records s i _) hlookup hway rfl fun _ => runs_of_not_live nofun rfl
  | convertDenied id i hlookup hp =>
    have hset : ((s.withdrawForConversion s.records[i] none).changeRecord i (s.records[i].madeDenied id)).records
        = s.records.set i (s.records[i].changed (s.records[i].madeDenied id)) :=
      congrArg (fun v : Vector Record 256 => v.set i (v[i].changed _)) (withdrawForConversion_records s _ _)
    exact .amended i _ hset (by rw [hp]; decide) (lookup_eq_some hlookup).2.2.symm
      (fun _ => findable_of_pending hp) fun _ _ => runs_of_not_live nofun rfl
  | retirePending i _ => exact .emptied i (congrArg (·.set i Record.empty) (withdrawForConversion_records s _ _))
  | withdraw k =>
    cases hc : s.slots[k] with
    | none => exact .none (by simp only [State.withdraw, hc]; rfl)
    | some c => rw [withdraw_eq hc]; exact .emptied c.record rfl
  | createClaim d id cls preferred n source k i a hadmit _ hlookup hway _ =>
    exact .placed i _ id (placeRecord_records s i (d.pendingRecord id a n k)) hlookup hway rfl fun hset =>
      runs_of_not_live (fun h => evaluate_lease hset hadmit (Option.some.inj h)) rfl
  | repeatOffer k c n source hc =>
    have hst := (hs.2.1.1 k c hc).1
    exact writes_pending hst (r := { s.records[c.record] with segment := some n }) rfl rfl rfl hst
  | commit k c n hc => exact writes_commit hs hc
  | reoffer k c a n source hc _ =>
    have hst := (hs.2.1.1 k c hc).1
    exact writes_pending hst (r := { s.records[c.record] with address := some a, segment := some n }) rfl rfl rfl hst
  | endDeclined k c hc => exact .emptied c.record rfl
  | reserve a _ => exact .none rfl
  | unreserve a _ => exact .none rfl
  | countDown => exact .none rfl
  | noteSent k c hc => exact .none rfl
  | countWindows => exact .none rfl
  | runOutWindow k => exact .none (runOutWindow_records s k)
  | configure p c _ => exact .none rfl
  | writeRule p k r _ => exact .none rfl

/-! ### Buckets and distinct IDs -/

/-- A record written lies in the bucket of its ID, where the one it replaces did. -/
theorem bucketsHold_of_set {s t : State} {i : RecNo} {r : Record} (hs : BucketsHold s)
    (h : t.records = s.records.set i r)
    (hi : r.state ≠ .empty → ∀ id, r.id = some id → i.val / 4 = (bucketOf id).val) : BucketsHold t := by
  intro j
  rw [records_of_set h]
  split
  · next hij => subst hij; exact hi
  · exact hs j

/-- A record written holds an ID that no other findable record holds. -/
theorem idsDistinct_of_set {s t : State} {i : RecNo} {r : Record} (hs : IdsDistinct s)
    (h : t.records = s.records.set i r)
    (hi : r.findable = true → ∀ j, j ≠ i → s.records[j].findable = true → s.records[j].id ≠ r.id) : IdsDistinct t := by
  intro j k
  rw [records_of_set h, records_of_set h]
  split <;> split
  · next hj hk => exact fun _ _ _ => hj.symm.trans hk
  · next hj hk => exact fun hf hf' hid => absurd hid.symm (hi hf k (Ne.symm hk) hf')
  · next hj hk => exact fun hf hf' hid => absurd hid (hi hf' j (Ne.symm hj) hf)
  · exact hs j k

theorem buckets_and_ids_of_writes {s t : State} (h : RecordWrites s t) (hb : BucketsHold s) (hd : IdsDistinct s) :
    BucketsHold t ∧ IdsDistinct t := by
  cases h with
  | none h => simpa only [BucketsHold, IdsDistinct, h] using And.intro hb hd
  | reset h =>
    have hr (i : RecNo) : t.records[i] = Record.empty := by rw [h]; exact reset_records i
    exact ⟨fun i hi => absurd (by rw [hr]; rfl) hi, fun i j hi => by rw [hr] at hi; cases hi⟩
  | emptied i h => exact ⟨bucketsHold_of_set hb h fun hne => absurd rfl hne, idsDistinct_of_set hd h nofun⟩
  | amended i r h hempty hid hfindable _ =>
    refine ⟨bucketsHold_of_set hb h fun _ id hr => hb i hempty id (hid.symm.trans hr),
      idsDistinct_of_set hd h fun hf j hj hfj heq => ?_⟩
    exact hj (hd j i hfj (hfindable hf) (heq.trans hid))
  | placed i r id h hlookup hway hid _ =>
    have hbucket := mem_waysOf.mp (placementWay_eq_some hway).1
    refine ⟨bucketsHold_of_set hb h fun _ id' hr => ?_, idsDistinct_of_set hd h fun _ j _ hfj heq => ?_⟩
    · rw [hid] at hr; cases hr; exact hbucket
    · rw [hid] at heq
      exact lookup_eq_none hlookup j (mem_waysOf.mpr (hb j (not_empty_of_findable hfj) id heq)) hfj heq

/-- Settles O58: a change writes a record under the ID it held, or under one that no record of its bucket holds. -/
theorem stepKeepsIdsDistinct : Obligations.StepKeepsIdsDistinct := by
  intro s t h hs hb hd
  exact (step_keeps (P := fun s => TablesAgree s ∧ BucketsHold s ∧ IdsDistinct s)
    (fun _ _ h hs => ⟨tablesAgree_step h hs.1, buckets_and_ids_of_writes (h.writes hs.1) hs.2.1 hs.2.2⟩) h
    ⟨hs, hb, hd⟩).2

/-! ### Leases -/

theorem leasesRun_iff {s : State} : LeasesRun s ↔ ∀ i : RecNo, s.records[i].runs := Iff.rfl

theorem leasesRun_of_set {s t : State} {i : RecNo} {r : Record} (hs : LeasesRun s)
    (h : t.records = s.records.set i r) (hr : r.runs) : LeasesRun t := by
  rw [leasesRun_iff] at hs ⊢
  intro j
  rw [records_of_set h]
  split
  · exact hr
  · exact hs j

theorem runs_empty : Record.empty.runs := ⟨nofun, nofun⟩

theorem leasesRun_of_writes {s t : State} (h : RecordWrites s t) (hset : SettingsInBounds s) (hs : LeasesRun s) :
    LeasesRun t := by
  cases h with
  | none h => simpa only [LeasesRun, h] using hs
  | reset h => exact leasesRun_iff.mpr fun i => by rw [h, reset_records]; exact runs_empty
  | emptied i h => exact leasesRun_of_set hs h runs_empty
  | amended i r h _ _ _ hruns => exact leasesRun_of_set hs h (hruns hset (leasesRun_iff.mp hs i))
  | placed i r id h _ _ _ hruns => exact leasesRun_of_set hs h (hruns hset)

end Sys2Proof.Machine
end

section
/-! PROOF. The settings stay in range (R66, R73), and a slot stays due exactly when its claim is OFFERED with no time left
(R58, R91): with the leases, O59. -/

namespace Sys2Proof.Machine

/-! ### Settings -/

/-- The configuration and the rules of a state. -/
def State.settings (s : State) : Params × Vector Rule 16 := (s.config, s.rules)

theorem settingsInBounds_congr {s t : State} (h : t.settings = s.settings) (hs : SettingsInBounds s) :
    SettingsInBounds t := by
  rw [State.settings, State.settings, Prod.mk.injEq] at h
  simpa only [SettingsInBounds, h] using hs

theorem withdrawForConversion_settings (s : State) (r : Record) (keep : Option Address) :
    (s.withdrawForConversion r keep).settings = s.settings := by
  unfold State.withdrawForConversion
  split
  · rfl
  split
  · rfl
  · simp only
    split <;> rfl

theorem releaseByMode_settings (s : State) (r : Record) (hold : Bool) :
    (s.releaseByMode r hold).settings = s.settings := by
  unfold State.releaseByMode State.holdAddressOf State.freeAddressOf
  split <;> split <;> rfl

theorem placeRecord_settings (s : State) (i : RecNo) (r : Record) : (s.placeRecord i r).settings = s.settings := by
  unfold State.placeRecord
  split <;> rfl

theorem withdraw_settings (s : State) (k : SlotNo) : (s.withdraw k).settings = s.settings := by
  unfold State.withdraw
  split <;> rfl

theorem runOutWindow_settings (s : State) (k : SlotNo) : (s.runOutWindow k).settings = s.settings := by
  unfold State.runOutWindow
  split
  · rfl
  · split <;> rfl

/-- The parameters that CONFIGURE takes are in range (R66). -/
theorem ofPayload_inBounds {p : List Byte} {c : Params} (h : Params.ofPayload p = .ok c) : c.inBounds := by
  unfold Params.ofPayload at h
  simp only at h
  split at h
  · cases h
  next hkhz =>
  split at h
  · cases h
  next htick =>
  split at h
  · cases h
  next hlease =>
  split at h
  · cases h
  next hstale =>
  split at h
  · cases h
  next hoffer =>
  split at h
  · cases h
  next hretry =>
  split at h
  · cases h
  split at h
  · next hrange =>
    cases h
    rw [not_or, Nat.not_lt, Nat.not_lt] at hkhz
    exact ⟨hkhz.1, hkhz.2, htick, hlease, hstale, hoffer, hretry, hrange⟩
  · cases h

theorem cleared_inBounds : Rule.cleared.inBounds := by decide

/-- The rule that WRITE_RULE takes is in range (R74, R75). -/
theorem ruleOfPayload_inBounds {p : List Byte} {r : Rule} (h : Rule.ofPayload p = .ok r) : r.inBounds := by
  unfold Rule.ofPayload at h
  split at h
  · cases h
  · cases h; exact cleared_inBounds
  split at h
  · cases h
  simp only at h
  split at h
  · cases h
  next hlength =>
  split at h
  · cases h
  next hvalue =>
  split at h
  · cases h
  next hlow =>
  split at h
  · cases h
  next hhigh =>
  split at h
  · cases h
  next hlease =>
  cases h
  refine ⟨by simpa using hlength, by simpa using hvalue, ?_, hlease⟩
  rw [validRange, Bool.and_eq_true, Bool.and_eq_true]
  simp only [Bool.not_eq_true', Bool.not_eq_false] at hlow
  simp only [Bool.or_eq_true, Bool.not_eq_true', decide_eq_true_eq, not_or, Bool.not_eq_false, BitVec.not_lt] at hhigh
  exact ⟨⟨hlow, hhigh.1⟩, decide_eq_true hhigh.2⟩

theorem settingsInBounds_reset : SettingsInBounds State.reset := by
  refine ⟨by decide, fun k => ?_⟩
  rw [show State.reset.rules[k] = Rule.cleared from Vector.getElem_replicate _]
  exact cleared_inBounds

/-- A change of the tables writes settings in range only. -/
theorem settingsInBounds_step {s t : State} (h : TableStep s t) (hs : SettingsInBounds s) : SettingsInBounds t := by
  have keep {u : State} (h : u.settings = s.settings) : SettingsInBounds u := settingsInBounds_congr h hs
  cases h with
  | quiet h => exact keep (congrArg (fun c : Core => (c.config, c.rules)) h)
  | reset h =>
    exact settingsInBounds_congr (s := State.reset) (congrArg (fun c : Core => (c.config, c.rules)) h)
      settingsInBounds_reset
  | amend i new _ => exact keep rfl
  | clear i _ => exact keep rfl
  | release i hold _ => exact keep (releaseByMode_settings s _ hold)
  | tombstone i why _ hk =>
    rw [State.endBinding, if_neg hk]
    exact keep (releaseByMode_settings _ _ true)
  | placeStatic id a cls groups lease i =>
    exact keep (placeRecord_settings s i (Record.empty.madeStatic id a cls groups lease))
  | convertStatic id a cls groups lease i => exact keep (withdrawForConversion_settings s _ _)
  | placeDenied id i => exact keep (placeRecord_settings s i _)
  | convertDenied id i => exact keep (withdrawForConversion_settings s _ _)
  | retirePending i _ => exact keep (withdrawForConversion_settings s _ _)
  | withdraw k => exact keep (withdraw_settings s k)
  | createClaim d id cls preferred n source k i a =>
    exact keep (placeRecord_settings s i (d.pendingRecord id a n k))
  | repeatOffer k c n source _ => exact keep rfl
  | commit k c n _ => exact keep rfl
  | reoffer k c a n source _ _ => exact keep (by simp [State.settings, State.reoffer, State.holdDeclined])
  | endDeclined k c _ => exact keep rfl
  | reserve a _ => exact keep rfl
  | unreserve a _ => exact keep rfl
  | countDown => exact keep rfl
  | noteSent k c _ => exact keep rfl
  | countWindows => exact keep rfl
  | runOutWindow k => exact keep (runOutWindow_settings s k)
  | configure p c h => exact ⟨ofPayload_inBounds h, hs.2⟩
  | writeRule p k r h =>
    refine ⟨hs.1, fun j => ?_⟩
    simp only [Fin.getElem_fin, Vector.getElem_set]
    split
    · exact ruleOfPayload_inBounds h
    · exact hs.2 j

/-! ### Expiries -/

/-- A claim is OFFERED with no time left. -/
def Claim.expired (c : Claim) : Bool := c.phase == .offered && c.window == 0

theorem expiriesAgree_iff {s : State} : ExpiriesAgree s ↔
    s.due.Nodup ∧ (s.due.Pairwise fun j k => j ∈ s.ranOut → k ∈ s.ranOut ∧ j < k)
      ∧ ∀ k : SlotNo, k ∈ s.due ↔ s.slots[k].any Claim.expired = true := Iff.rfl

/-- What the agreement of the expiries speaks of. -/
def State.timing (s : State) : Vector (Option Claim) 8 × List SlotNo × List SlotNo := (s.slots, s.due, s.ranOut)

theorem expiriesAgree_congr {s t : State} (h : t.timing = s.timing) (hs : ExpiriesAgree s) : ExpiriesAgree t := by
  rw [State.timing, State.timing, Prod.mk.injEq, Prod.mk.injEq] at h
  simpa only [ExpiriesAgree, h] using hs

/-- A slot takes a content with time left, or none, and its expiry is no longer due. -/
theorem expiriesAgree_of_slot {s t : State} {k : SlotNo} {c : Option Claim} (hs : ExpiriesAgree s)
    (hc : c.any Claim.expired = false) (h : t.timing = (s.slots.set k c, s.due.filter (· != k), s.ranOut)) :
    ExpiriesAgree t := by
  obtain ⟨hnodup, hpair, hmem⟩ := expiriesAgree_iff.mp hs
  rw [State.timing, Prod.mk.injEq, Prod.mk.injEq] at h
  obtain ⟨hslots, hdue, hran⟩ := h
  refine expiriesAgree_iff.mpr ⟨?_, ?_, fun l => ?_⟩
  · rw [hdue]; exact hnodup.filter _
  · rw [hdue, hran]; exact hpair.filter _
  · rw [hdue, slots_of_set hslots, List.mem_filter, hmem]
    split
    · next hl => subst hl; simp [hc]
    · next hl => simp [Ne.symm hl]

/-- A slot that holds no claim with no time left is not due. -/
theorem filter_due_of_not_expired {s : State} (hs : ExpiriesAgree s) {k : SlotNo}
    (h : s.slots[k].any Claim.expired = false) : s.due.filter (· != k) = s.due := by
  refine List.filter_eq_self.mpr fun l hl => ?_
  rw [bne_iff_ne]
  rintro rfl
  rw [((expiriesAgree_iff.mp hs).2.2 l).mp hl] at h
  cases h

theorem expiriesAgree_withdrawForConversion {s : State} (hs : ExpiriesAgree s) (r : Record) (keep : Option Address) :
    ExpiriesAgree (s.withdrawForConversion r keep) := by
  unfold State.withdrawForConversion
  split
  · exact hs
  split
  · next k _ _ _ => exact expiriesAgree_of_slot (k := k) (c := none) hs rfl rfl
  next k _ _ c _ =>
  have hfreed : ExpiriesAgree ((s.removeOffers c.nonce).freeSlot k) := expiriesAgree_of_slot (k := k) (c := none) hs rfl rfl
  simp only
  split
  · exact hfreed
  · exact expiriesAgree_congr rfl hfreed

theorem releaseByMode_timing (s : State) (r : Record) (hold : Bool) : (s.releaseByMode r hold).timing = s.timing := by
  unfold State.releaseByMode State.holdAddressOf State.freeAddressOf
  split <;> split <;> rfl

theorem placeRecord_timing (s : State) (i : RecNo) (r : Record) : (s.placeRecord i r).timing = s.timing := by
  unfold State.placeRecord
  split <;> rfl

theorem expiriesAgree_withdraw {s : State} (hs : ExpiriesAgree s) (k : SlotNo) : ExpiriesAgree (s.withdraw k) := by
  refine expiriesAgree_of_slot (k := k) (c := none) hs rfl ?_
  unfold State.withdraw
  split <;> rfl

theorem expiriesAgree_createClaim {s : State} (hs : ExpiriesAgree s) {d : Terms} {id : ModuleId} {n : SegNo}
    {source : Address} {k : SlotNo} {i : RecNo} {a : Address} (hslot : s.firstFreeSlot = some k) :
    ExpiriesAgree (s.createClaim d id n source k i a) := by
  refine expiriesAgree_of_slot (k := k) (c := some
      { phase := .sending, record := i, id := id, segment := n, address := a, nonce := s.engine.nonce, repeats := 0,
        declines := 0, window := s.fullWindow, low := d.low, high := d.high, groups := d.groups, replyTo := source }) hs rfl ?_
  rw [filter_due_of_not_expired hs (by rw [firstFreeSlot_eq_some hslot]; rfl)]
  exact congrArg (fun x : Vector (Option Claim) 8 × List SlotNo × List SlotNo => (x.1.set k _, x.2))
    (placeRecord_timing s i (d.pendingRecord id a n k))

theorem countDown_expired (c : Claim) : c.countDown.expired = (c.expired || c.runsOut) := by
  unfold Claim.countDown
  split
  · next h =>
    simp only [Claim.expired, Claim.runsOut, h, beq_self_eq_true, Bool.true_and]
    rw [Bool.eq_iff_iff]
    simp only [Bool.or_eq_true, beq_iff_eq]
    omega
  · next h => simp [Claim.expired, Claim.runsOut, h]

theorem not_runsOut_of_expired {c : Claim} (h : c.expired = true) : c.runsOut = false := by
  simp only [Claim.expired, Bool.and_eq_true, beq_iff_eq] at h
  simp [Claim.runsOut, h]

theorem mem_ranOut_of_countWindows {s : State} {k : SlotNo} :
    k ∈ s.countWindows.ranOut ↔ s.slots[k].any Claim.runsOut = true :=
  mem_slotsWhere (p := fun k => s.slots[k].any Claim.runsOut)

theorem expiriesAgree_countWindows {s : State} (hs : ExpiriesAgree s) : ExpiriesAgree s.countWindows := by
  obtain ⟨hnodup, _, hmem⟩ := expiriesAgree_iff.mp hs
  have hold (k : SlotNo) (hk : k ∈ s.due) : s.slots[k].any Claim.runsOut = false := by
    have h := (hmem k).mp hk
    cases hc : s.slots[k] with
    | none => rfl
    | some c => rw [hc] at h; exact not_runsOut_of_expired h
  have hnew := slotsWhere_ascending fun k => s.slots[k].any Claim.runsOut
  refine expiriesAgree_iff.mpr ⟨?_, ?_, fun k => ?_⟩
  · refine List.nodup_append.mpr ⟨hnodup, hnew.imp fun h => ne_of_lt h, fun j hj k hk hjk => ?_⟩
    rw [mem_slotsWhere] at hk
    rw [← hjk, hold j hj] at hk
    cases hk
  · refine List.pairwise_append.mpr ⟨List.pairwise_of_forall_mem_list fun j hj k _ h => ?_,
      hnew.imp_of_mem fun _ hk h _ => ⟨hk, h⟩, fun j hj k _ h => ?_⟩
    all_goals
      rw [mem_ranOut_of_countWindows, hold j hj] at h
      cases h
  · rw [countWindows_slots, show s.countWindows.due = s.due ++ _ from rfl, List.mem_append, mem_slotsWhere, hmem]
    cases s.slots[k] with
    | none => simp
    | some c => simp [countDown_expired]

theorem expiriesAgree_runOutWindow {s : State} (hs : ExpiriesAgree s) (k : SlotNo) :
    ExpiriesAgree (s.runOutWindow k) := by
  obtain ⟨hnodup, _, hmem⟩ := expiriesAgree_iff.mp hs
  unfold State.runOutWindow
  split
  · exact hs
  next c hc =>
  split
  swap
  · exact hs
  next h =>
  have hlast := slotsWhere_ascending fun j => j == k || (s.due.contains j && s.ranOut.contains j)
  have hearlier (j : SlotNo) (hj : j ∈ s.due.filter fun j => j != k && !s.ranOut.contains j) :
      ¬j ∈ slotsWhere fun j => j == k || s.ranOut.contains j := by
    have := (List.mem_filter.mp hj).2
    simp only [bne_iff_ne, Bool.and_eq_true, Bool.not_eq_true'] at this
    rw [mem_slotsWhere, this.2, beq_eq_false_iff_ne.mpr this.1]
    decide
  have hrecent (j : SlotNo) (hj : j ∈ slotsWhere fun j => j == k || (s.due.contains j && s.ranOut.contains j)) :
      j ∈ slotsWhere fun j => j == k || s.ranOut.contains j := by
    rw [mem_slotsWhere, Bool.or_eq_true] at hj ⊢
    exact hj.imp_right fun h => (Bool.and_eq_true _ _ ▸ h).2
  refine expiriesAgree_iff.mpr ⟨?_, ?_, fun l => ?_⟩
  · exact List.nodup_append.mpr ⟨hnodup.filter _, hlast.imp fun h => ne_of_lt h, fun j hj l hl hjl =>
      hearlier j hj (hrecent j (hjl ▸ hl))⟩
  · exact List.pairwise_append.mpr ⟨List.pairwise_of_forall_mem_list fun j hj l _ h => absurd h (hearlier j hj),
      hlast.imp_of_mem fun _ hl h _ => ⟨hrecent _ hl, h⟩, fun j hj l _ h => absurd h (hearlier j hj)⟩
  · show l ∈ s.dueWith k ↔ (s.withSlot k (some { c with window := 0 })).slots[l].any Claim.expired = true
    rw [mem_dueWith, withSlot_getElem, hmem]
    split
    · next hl => subst hl; simp [Claim.expired, h.1]
    · next hl => simp [Ne.symm hl]

theorem expiriesAgree_reset : ExpiriesAgree State.reset := by
  refine expiriesAgree_iff.mpr ⟨List.nodup_nil, List.Pairwise.nil, fun k => ?_⟩
  rw [reset_slots]
  simp [State.reset]

/-- Where the offer window has a length, a change of the tables keeps the expiries in agreement. -/
theorem expiriesAgree_step {s t : State} (h : TableStep s t) (hset : SettingsInBounds s) (hs : ExpiriesAgree s) :
    ExpiriesAgree t := by
  have keep {u : State} (h : u.timing = s.timing) : ExpiriesAgree u := expiriesAgree_congr h hs
  cases h with
  | quiet h => exact keep (congrArg (fun c : Core => (c.slots, c.due, c.ranOut)) h)
  | reset h =>
    exact expiriesAgree_congr (s := State.reset) (congrArg (fun c : Core => (c.slots, c.due, c.ranOut)) h)
      expiriesAgree_reset
  | amend i new _ => exact keep rfl
  | clear i _ => exact keep rfl
  | release i hold _ => exact keep (releaseByMode_timing s _ hold)
  | tombstone i why _ hk =>
    rw [State.endBinding, if_neg hk]
    exact keep (releaseByMode_timing _ _ true)
  | placeStatic id a cls groups lease i =>
    exact keep (placeRecord_timing s i (Record.empty.madeStatic id a cls groups lease))
  | convertStatic id a cls groups lease i =>
    exact expiriesAgree_congr rfl (expiriesAgree_withdrawForConversion hs s.records[i] (some a))
  | placeDenied id i => exact keep (placeRecord_timing s i _)
  | convertDenied id i => exact expiriesAgree_congr rfl (expiriesAgree_withdrawForConversion hs s.records[i] none)
  | retirePending i _ => exact expiriesAgree_congr rfl (expiriesAgree_withdrawForConversion hs s.records[i] none)
  | withdraw k => exact expiriesAgree_withdraw hs k
  | createClaim d id cls preferred n source k i a _ hslot _ _ _ => exact expiriesAgree_createClaim hs hslot
  | repeatOffer k c n source _ =>
    exact expiriesAgree_of_slot (k := k) (c := some { c with
      phase := .sending, repeats := c.repeats + 1, segment := n, replyTo := source, window := s.fullWindow }) hs rfl rfl
  | commit k c n _ => exact expiriesAgree_of_slot (k := k) (c := none) hs rfl rfl
  | reoffer k c a n source _ _ =>
    refine expiriesAgree_of_slot (k := k) (c := some { c with
      phase := .sending, address := a, nonce := s.engine.nonce, declines := c.declines + 1, segment := n,
      replyTo := source, window := s.fullWindow }) hs rfl ?_
    simp [State.timing, State.reoffer, State.holdDeclined, State.fullWindow]
  | endDeclined k c _ => exact expiriesAgree_of_slot (k := k) (c := none) hs rfl rfl
  | reserve a _ => exact keep rfl
  | unreserve a _ => exact keep rfl
  | countDown => exact keep rfl
  | noteSent k c _ =>
    have hwindow : s.config.offerWindow.toNat ≠ 0 := fun h => hset.1.2.2.2.2.2.1 (BitVec.eq_of_toNat_eq h)
    refine expiriesAgree_of_slot (k := k) (c := some { c with phase := .offered, window := s.fullWindow }) hs ?_ rfl
    simpa [Claim.expired, State.fullWindow, ← BitVec.toNat_inj] using hwindow
  | countWindows => exact expiriesAgree_countWindows hs
  | runOutWindow k => exact expiriesAgree_runOutWindow hs k
  | configure p c _ => exact keep rfl
  | writeRule p k r _ => exact keep rfl

/-- Settles O59: every change of the tables keeps the settings in range, and with them the leases and the expiries. -/
theorem stepKeepsSettingsAndLeases : Obligations.StepKeepsSettingsAndLeases := by
  intro s t h hset
  refine ⟨step_keeps (fun _ _ => settingsInBounds_step) h hset, fun htables hruns => ?_, fun hs => ?_⟩
  · exact (step_keeps (P := fun s => SettingsInBounds s ∧ TablesAgree s ∧ LeasesRun s)
      (fun _ _ h ⟨hset, htables, hruns⟩ => ⟨settingsInBounds_step h hset, tablesAgree_step h htables,
        leasesRun_of_writes (h.writes htables) hset hruns⟩) h ⟨hset, htables, hruns⟩).2.2
  · exact (step_keeps (P := fun s => SettingsInBounds s ∧ ExpiriesAgree s)
      (fun _ _ h ⟨hset, hs⟩ => ⟨settingsInBounds_step h hset, expiriesAgree_step h hset hs⟩) h ⟨hset, hs⟩).2

end Sys2Proof.Machine
end

section
/-! PROOF. Every operation of a Segment Controller keeps its parts in agreement (R147, R152, R155, R157 to R161, R163,
R164). -/

namespace Sys2Proof.Machine

namespace SegCtl

/-! ### The controller's states -/

theorem enabled_iff {c : SegCtl} : c.enabled = true ↔ c.state = .listening ∨ c.state = .hushed := by
  simp [SegCtl.enabled]

theorem not_enabled_of_fault {c : SegCtl} (h : c.state = .fault) : c.enabled = false := by simp [SegCtl.enabled, h]

/-- A controller with the state of an enabled one is not down. -/
theorem not_down {c d : SegCtl} (hen : c.enabled = true) (hd : d.enabled = false) (h : d.state = c.state) : False := by
  rw [SegCtl.enabled, h, ← SegCtl.enabled, hen] at hd
  cases hd

theorem agrees_reset : SegCtl.reset.agrees := by
  refine ⟨fun _ => ⟨rfl, rfl, rfl, rfl, rfl, rfl⟩, nofun, nofun, nofun, nofun, by decide, nofun, nofun, fun h => ?_, nofun,
    fun _ => rfl, by decide⟩
  exact absurd rfl h

/-! ### The transmit queue -/

theorem room_iff {c : SegCtl} : c.room = true ↔ c.enabled = true ∧ c.tx.length < 6 := by
  rw [SegCtl.room, Bool.and_eq_true, decide_eq_true_eq, Config.txCapacity]

theorem headAttempts_append {c : SegCtl} (l : List TxEntry) (h : c.headAttempts ≠ 0) :
    ({ c with tx := c.tx ++ l } : SegCtl).headAttempts ≠ 0 := by
  cases htx : c.tx with
  | nil => simp [SegCtl.headAttempts, htx] at h
  | cons e rest => simpa [SegCtl.headAttempts, htx] using h

/-- A message joins the tail of a queue with room; an OFFER while no notice is held. -/
theorem enqueue_agrees {c : SegCtl} (h : c.agrees) (hroom : c.room = true) {dest : Address} {m : Message}
    (hm : m.offerNonce = none ∨ c.notices = []) : (c.enqueue dest m).agrees := by
  obtain ⟨_, hup, hlisten, hhush, hfault, _, htail, hattempts, hhead, hsend, hline, hcount⟩ := h
  obtain ⟨hen, hlen⟩ := room_iff.mp hroom
  refine ⟨fun hd => ?_, hup, hlisten, hhush, hfault, ?_, fun e he => ?_, fun e he => ?_,
    fun ht => headAttempts_append _ (hhead ht), hsend, hline, ?_⟩
  · exact (not_down hen hd rfl).elim
  · simpa [SegCtl.enqueue] using hlen
  · cases htx : c.tx with
    | nil => simp [SegCtl.enqueue, htx] at he
    | cons e' rest =>
      rw [SegCtl.enqueue, htx, List.cons_append, List.tail_cons, List.mem_append, List.mem_singleton] at he
      rcases he with he | rfl
      · exact htail e (by rwa [htx])
      · rfl
  · rcases List.mem_append.mp he with he | he
    · exact hattempts e he
    · rw [List.mem_singleton.mp he]; exact ⟨Nat.zero_le _, fun _ => Nat.zero_le _⟩
  · rw [SegCtl.enqueue, List.countP_append]
    rcases hm with hm | hm
    · simpa [hm] using hcount
    · have := List.countP_le_length (l := c.tx) (p := fun e => e.message.offerNonce.isSome)
      have hone := List.countP_le_length (l := [(⟨dest, m, 0⟩ : TxEntry)]) (p := fun e => e.message.offerNonce.isSome)
      simp only [List.length_singleton] at hone
      simp only [hm, List.length_nil]
      omega

/-- The flags, the bit rate and a taken notice are no part of the agreement. -/
theorem agrees_of_less {c d : SegCtl} (h : c.agrees) (hstate : d.state = c.state) (hreceiver : d.receiver = c.receiver)
    (htransmitter : d.transmitter = c.transmitter) (hmonitor : d.monitor = c.monitor) (hrx : d.rx = c.rx)
    (htx : d.tx = c.tx) (hnotices : d.notices = c.notices ∨ d.notices = c.notices.tail)
    (hfaultNotice : d.faultNotice = true → c.faultNotice = true) (hlineOut : d.lineOut = c.lineOut) : d.agrees := by
  have hen : d.enabled = c.enabled := by rw [SegCtl.enabled, hstate, SegCtl.enabled]
  have hheadEq : d.headAttempts = c.headAttempts := by rw [SegCtl.headAttempts, htx, SegCtl.headAttempts]
  have hle : d.notices.length ≤ c.notices.length := by
    rcases hnotices with hn | hn
    · exact (congrArg List.length hn).le
    · rw [hn, List.length_tail]; exact Nat.sub_le _ _
  obtain ⟨hdown, hup, hlisten, hhush, hfault, hlen, htail, hattempts, hhead, hsend, hline, hcount⟩ := h
  rw [SegCtl.agrees, hen, hreceiver, htransmitter, hmonitor, hrx, htx, hstate, hheadEq, hlineOut]
  refine ⟨fun hd => ?_, hup, hlisten, hhush, fun hf => hfault (hfaultNotice hf), hlen, htail, hattempts, hhead, hsend,
    hline, Nat.le_trans (Nat.add_le_add_left hle _) hcount⟩
  obtain ⟨h1, h2, h3, h4, h5, h6⟩ := hdown hd
  refine ⟨h1, h2, h3, h4, h5, List.eq_nil_of_length_eq_zero ?_⟩
  rw [h6, List.length_nil] at hle
  exact Nat.le_zero.mp hle

theorem refusePlacement_agrees {c : SegCtl} (h : c.agrees) : c.refusePlacement.agrees := by
  unfold SegCtl.refusePlacement
  split
  · exact agrees_of_less h rfl rfl rfl rfl rfl rfl (.inl rfl) id rfl
  · exact h

/-- Unstarted OFFERs leave the queue: the started head stays where it is. -/
theorem dropOffers_agrees {c : SegCtl} (h : c.agrees) (nonce : BitVec 16) : (c.dropOffers nonce).agrees := by
  unfold SegCtl.dropOffers
  split
  swap
  · exact h
  next hen =>
  obtain ⟨_, hup, hlisten, hhush, hfault, hlen, htail, hattempts, hhead, hsend, hline, hcount⟩ := h
  have hsub : (c.tx.filter fun e => !e.unstartedOffer nonce).Sublist c.tx := List.filter_sublist
  refine ⟨fun hd => ?_, hup, hlisten, hhush, hfault, Nat.le_trans hsub.length_le hlen, fun e he => ?_,
    fun e he => hattempts e (hsub.subset he), fun ht => ?_, hsend, hline,
    Nat.le_trans (Nat.add_le_add_right (hsub.countP_le) _) hcount⟩
  · exact (not_down hen hd rfl).elim
  · cases htx : c.tx with
    | nil => simp [htx] at he
    | cons e' rest =>
      rw [htx] at htail
      simp only [htx, List.filter_cons] at he
      split at he
      · exact htail e (List.mem_filter.mp he).1
      · exact htail e (List.mem_filter.mp (List.mem_of_mem_tail he)).1
  · have hne := hhead ht
    cases htx : c.tx with
    | nil => simp [SegCtl.headAttempts, htx] at hne
    | cons e rest =>
      have hstarted : e.attempts ≠ 0 := by simpa [SegCtl.headAttempts, htx] using hne
      simp [SegCtl.headAttempts, TxEntry.unstartedOffer, hstarted]

/-! ### The receive queue and the receiver -/

theorem takeFrame_enabled (c : SegCtl) : c.takeFrame.enabled = c.enabled := by
  unfold SegCtl.takeFrame SegCtl.enabled
  cases h : c.state <;> simp

theorem takeFrame_agrees {c : SegCtl} (h : c.agrees) : c.takeFrame.agrees := by
  obtain ⟨hdown, hup, hlisten, hhush, hfault, hlen, htail, hattempts, hhead, hsend, hline, hcount⟩ := h
  rw [SegCtl.agrees, takeFrame_enabled]
  refine ⟨fun hd => ?_, hup, fun hs => ?_, fun hs => ?_, fun hf => ?_, hlen, htail, hattempts, hhead, hsend, hline, hcount⟩
  · obtain ⟨h1, h2, h3, h4, h5, h6⟩ := hdown hd
    exact ⟨h1, h2, h3, by rw [SegCtl.takeFrame, h4]; rfl, h5, h6⟩
  · have hstate : c.state = .hushed ∨ c.state = .listening := by
      simp only [SegCtl.takeFrame] at hs
      split at hs
      · next h => exact .inl h
      · exact .inr hs
    simp only [SegCtl.takeFrame, List.length_tail]
    rcases hstate with h | h
    · rw [hhush h]
    · have := hlisten h; omega
  · simp only [SegCtl.takeFrame] at hs
    split at hs
    · cases hs
    · next hne => exact absurd hs hne
  · have hstate := hfault hf
    simp [SegCtl.takeFrame, hstate]

/-- The receiver and the monitor of an enabled controller that is not sending change. -/
theorem receiver_agrees {c : SegCtl} (h : c.agrees) (hen : c.enabled = true) {r : RxState} {m : Monitor} {e : Bool}
    (hr : r ≠ .off) (hm : m ≠ .off) (hsending : c.transmitter = .sending → r = .gap) :
    ({ c with receiver := r, monitor := m, rxError := e } : SegCtl).agrees := by
  obtain ⟨hdown, hup, hlisten, hhush, hfault, hlen, htail, hattempts, hhead, hsend, hline, hcount⟩ := h
  refine ⟨fun hd => ?_, fun _ => ⟨hr, hm⟩, hlisten, hhush, hfault, hlen, htail, hattempts, hhead, hsending, hline, hcount⟩
  exact (not_down hen hd rfl).elim

/-- A receiver that is not in RX_GAP belongs to a transmitter that is not sending. -/
theorem not_sending_of_receiver {c : SegCtl} (h : c.agrees) (hr : c.receiver ≠ .gap) : c.transmitter ≠ .sending := by
  obtain ⟨_, _, _, _, _, _, _, _, _, hsend, _⟩ := h
  exact fun ht => hr (hsend ht)

theorem frameStart_agrees {c : SegCtl} (h : c.agrees) : c.frameStart.agrees := by
  unfold SegCtl.frameStart
  split
  · next hr =>
    exact receiver_agrees (e := c.rxError) h hr.1 (by decide) (by decide) fun ht =>
      absurd ht (not_sending_of_receiver h (by rw [hr.2]; decide))
  · exact h

theorem startGap_agrees {c : SegCtl} (h : c.agrees) : c.startGap.agrees := by
  unfold SegCtl.startGap
  split
  · next hr => exact receiver_agrees (e := c.rxError) h hr.1 (by decide) (by decide) fun ht => absurd ht hr.2.2
  · exact h

theorem activeInGap_agrees {c : SegCtl} (h : c.agrees) : c.activeInGap.agrees := by
  unfold SegCtl.activeInGap
  split
  · next hr =>
    refine receiver_agrees (r := c.receiver) (e := c.rxError) h hr.1 ?_ (by decide) fun ht => absurd ht hr.2.2
    rw [hr.2.1]; decide
  · exact h

theorem overLength_agrees {c : SegCtl} (h : c.agrees) (hen : c.enabled = true) : c.overLength.agrees := by
  obtain ⟨_, hup, _⟩ := id h
  exact receiver_agrees (m := c.monitor) h hen (by decide) (hup hen).2 fun _ => rfl

theorem offerFrame_agrees {c : SegCtl} (h : c.agrees) (hen : c.enabled = true) (f : RxFrame) :
    (c.offerFrame f).agrees := by
  obtain ⟨hdown, hup, hlisten, hhush, hfault, hlen, htail, hattempts, hhead, hsend, hline, hcount⟩ := id h
  unfold SegCtl.offerFrame
  split
  · exact agrees_of_less h rfl rfl rfl rfl rfl rfl (.inl rfl) id rfl
  next hfull =>
  have hstate : c.state = .listening := (enabled_iff.mp hen).resolve_right fun hs => hfull (by rw [hhush hs]; decide)
  split
  · next hfills =>
    refine ⟨nofun, fun _ => hup hen, nofun, fun _ => ?_, fun hf => ?_, hlen, htail, hattempts, hhead, hsend, hline, hcount⟩
    · rw [List.length_append]; exact hfills
    · rw [hstate] at hfault; exact absurd (hfault hf) (by decide)
  · next hfills =>
    refine ⟨fun hd => ?_, hup, fun _ => ?_, fun hs => ?_, hfault, hlen, htail, hattempts, hhead, hsend, hline, hcount⟩
    · exact (not_down hen hd rfl).elim
    · rw [List.length_append, List.length_singleton]
      simp only [Config.rxCapacity] at hfull hfills
      omega
    · rw [show SegCtl.state { c with rx := c.rx ++ [f] } = c.state from rfl, hstate] at hs; cases hs

theorem filterFrame_agrees {c : SegCtl} (h : c.agrees) (hen : c.enabled = true) (bs : List Byte) (err : Bool) :
    (c.filterFrame bs err).agrees := by
  unfold SegCtl.filterFrame
  split
  · exact h
  · exact agrees_of_less h rfl rfl rfl rfl rfl rfl (.inl rfl) id rfl
  · split
    · exact h
    · exact offerFrame_agrees h hen _

theorem frameComplete_agrees {c : SegCtl} (h : c.agrees) (line : List Level) : (c.frameComplete line).agrees := by
  unfold SegCtl.frameComplete
  split
  swap
  · exact h
  next hr =>
  have hnot := not_sending_of_receiver h (by rw [hr.2]; decide)
  split
  · exact receiver_agrees (r := .gap) (m := .quiet) (e := true) h hr.1 (by decide) (by decide) fun _ => rfl
  · exact filterFrame_agrees
      (receiver_agrees (r := .ready) (m := .quiet) (e := c.rxError) h hr.1 (by decide) (by decide) fun ht =>
        absurd ht hnot) hr.1 _ _

/-! ### The transmitter -/

theorem attemptStart_agrees {c : SegCtl} (h : c.agrees) : c.attemptStart.agrees := by
  unfold SegCtl.attemptStart
  split
  · exact h
  next e rest htx =>
  split
  swap
  · exact h
  next hc =>
  obtain ⟨hen, hidle, hreceiver⟩ := hc
  obtain ⟨hdown, hup, hlisten, hhush, hfault, hlen, htail, hattempts, hhead, hsend, hline, hcount⟩ := id h
  refine ⟨fun hd => ?_, fun _ => ⟨nofun, nofun⟩, hlisten, hhush, hfault, ?_, ?_, fun x hx => ⟨?_, fun ht => absurd rfl ht⟩,
    fun _ => Nat.succ_ne_zero _, fun _ => rfl, fun ht => absurd rfl ht, ?_⟩
  · exact (not_down hen hd rfl).elim
  · simpa [htx] using hlen
  · simpa [htx] using htail
  · rw [List.mem_cons] at hx
    rcases hx with rfl | hx
    · have := (hattempts e (by simp [htx])).2 (by rw [hidle]; decide)
      show e.attempts + 1 ≤ 4
      omega
    · exact (hattempts x (by simp [htx, hx])).1
  · simpa [htx, List.countP_cons] using hcount

/-- The head leaves the queue, and its notice takes the place that its OFFER held. -/
theorem finish_agrees {c : SegCtl} (h : c.agrees) (hen : c.enabled = true) {e : TxEntry} {rest : List TxEntry}
    (htx : c.tx = e :: rest) (sent : Bool) {m : Monitor} (hm : m ≠ .off) :
    ({ c.finish e rest sent with monitor := m } : SegCtl).agrees := by
  obtain ⟨hdown, hup, hlisten, hhush, hfault, hlen, htail, hattempts, hhead, hsend, hline, hcount⟩ := id h
  rw [htx] at hlen htail hattempts hcount
  refine ⟨fun hd => ?_, fun _ => ⟨(hup hen).1, hm⟩, hlisten, hhush, hfault, ?_, fun x hx => ?_, fun x hx => ?_,
    fun ht => absurd rfl ht, nofun, fun _ => rfl, ?_⟩
  · exact (not_down hen hd rfl).elim
  · exact Nat.le_of_succ_le hlen
  · exact htail x (List.mem_of_mem_tail hx)
  · have := htail x hx
    exact ⟨by omega, fun _ => by omega⟩
  · simp only [SegCtl.finish, List.length_append]
    rw [List.countP_cons] at hcount
    have houtcome : (e.message.outcome sent).length = if e.message.offerNonce.isSome = true then 1 else 0 := by
      unfold Message.outcome
      cases e.message.offerNonce <;> rfl
    omega

theorem monitorAfter_ne_off (stillActive : Bool) : monitorAfter stillActive ≠ .off := by
  cases stillActive <;> decide

theorem collision_agrees {c : SegCtl} (h : c.agrees) (n : SegNo) (stillActive : Bool) :
    (c.collision n stillActive).agrees := by
  unfold SegCtl.collision
  split
  · exact h
  next e rest htx =>
  split
  swap
  · exact h
  next hc =>
  obtain ⟨hen, hsending⟩ := hc
  split
  · exact finish_agrees h hen htx false (monitorAfter_ne_off stillActive)
  next hmore =>
  obtain ⟨hdown, hup, hlisten, hhush, hfault, hlen, htail, hattempts, hhead, hsend, hline, hcount⟩ := id h
  refine ⟨fun hd => ?_, fun _ => ⟨(hup hen).1, monitorAfter_ne_off stillActive⟩, hlisten, hhush, hfault, hlen, htail,
    fun x hx => ⟨(hattempts x hx).1, fun _ => ?_⟩, fun _ => hhead (by rw [hsending]; decide), nofun, fun _ => rfl, hcount⟩
  · exact (not_down hen hd rfl).elim
  · rw [htx] at hx htail
    rcases List.mem_cons.mp hx with rfl | hx
    · simp only [Config.maxAttempts] at hmore; omega
    · rw [htail x hx]; omega

theorem backoffExpiry_agrees {c : SegCtl} (h : c.agrees) : c.backoffExpiry.agrees := by
  unfold SegCtl.backoffExpiry
  split
  swap
  · exact h
  next w hw =>
  obtain ⟨hdown, hup, hlisten, hhush, hfault, hlen, htail, hattempts, hhead, hsend, hline, hcount⟩ := id h
  have hnot : c.transmitter ≠ .sending := by rw [hw]; exact nofun
  refine ⟨fun hd => ?_, hup, hlisten, hhush, hfault, hlen, htail, fun x hx => ⟨(hattempts x hx).1, fun _ => (hattempts x hx).2 hnot⟩,
    fun ht => absurd rfl ht, nofun, fun _ => hline hnot, hcount⟩
  obtain ⟨h1, _, h3⟩ := hdown hd
  exact ⟨h1, rfl, h3⟩

theorem transmitComplete_agrees {c : SegCtl} (h : c.agrees) : c.transmitComplete.agrees := by
  unfold SegCtl.transmitComplete
  split
  · exact h
  next e rest htx =>
  split
  · next hc =>
    obtain ⟨_, hup, _⟩ := id h
    exact finish_agrees (m := c.monitor) h hc.1 htx true (hup hc.1).2
  · exact h

/-! ### Enabling, disabling and FAULT -/

/-- A cleared controller in a state that is down, off. -/
theorem cleared_down_agrees (c : SegCtl) {st : SegState} {f : Bool} (hst : st = .disabled ∨ st = .fault)
    (hf : f = true → st = .fault) :
    ({ c.cleared with state := st, receiver := .off, monitor := .off, faultNotice := f } : SegCtl).agrees := by
  refine ⟨fun _ => ⟨rfl, rfl, rfl, rfl, rfl, rfl⟩, fun h => ?_, fun h => ?_, fun h => ?_, hf, by simp [SegCtl.cleared],
    nofun, nofun, fun h => absurd rfl h, nofun, fun _ => rfl, by simp [SegCtl.cleared]⟩
  · rcases hst with rfl | rfl <;> cases h
  · rcases hst with rfl | rfl <;> cases h
  · rcases hst with rfl | rfl <;> cases h

/-- A cleared controller that is enabled. -/
theorem cleared_up_agrees (c : SegCtl) : ({ c.cleared with
    state := .listening, receiver := .gap, monitor := .measuring, rxError := false, overflow := false } : SegCtl).agrees :=
  ⟨nofun, fun _ => ⟨nofun, nofun⟩, fun _ => Nat.zero_le _, nofun, nofun, Nat.zero_le _, nofun, nofun,
    fun h => absurd rfl h, nofun, fun _ => rfl, Nat.zero_le _⟩

end SegCtl

end Sys2Proof.Machine
end

section
/-! PROOF. What the operations of the tables leave alone: the queues and credits of the port, the modes, the sweep and the
flush, and the waiting commands; with the agreement of the segments, which they keep. -/

namespace Sys2Proof.Machine

/-! ### Mild and calm operations -/

/-- An operation leaves the waiting commands, keeps the nonce counter off 0000h and the segments in agreement. -/
structure Mild (s t : State) : Prop where
  pending : t.pending = s.pending
  nonce : s.engine.nonce ≠ 0 → t.engine.nonce ≠ 0
  segs : SegmentsAgree s → SegmentsAgree t

/-- The queues and credits of the port, and what the modes agree with. -/
def State.hostSide (s : State) : List Request × List Response × Nat × Mode × Bool × Nat × Bool :=
  (s.port.requests, s.port.responses, s.port.credits, s.engine.mode, s.engine.sweeping, s.engine.owed, s.engine.flushing)

/-- A mild operation that leaves the host's side of the state alone. -/
structure Calm (s t : State) : Prop extends Mild s t where
  host : t.hostSide = s.hostSide

theorem Mild.refl (s : State) : Mild s s := ⟨rfl, id, id⟩

theorem Mild.trans {s t u : State} (h : Mild s t) (h' : Mild t u) : Mild s u :=
  ⟨h'.pending.trans h.pending, fun hn => h'.nonce (h.nonce hn), fun hs => h'.segs (h.segs hs)⟩

theorem Calm.refl (s : State) : Calm s s := ⟨.refl s, rfl⟩

theorem Calm.trans {s t u : State} (h : Calm s t) (h' : Calm t u) : Calm s u :=
  ⟨h.toMild.trans h'.toMild, h'.host.trans h.host⟩

/-- The Segment Controllers and the nonce counter stand. -/
theorem Mild.still {s t : State} (hpending : t.pending = s.pending) (hnonce : t.engine.nonce = s.engine.nonce)
    (hsegs : t.segs = s.segs) : Mild s t :=
  ⟨hpending, fun h => by rwa [hnonce], fun h => by rwa [SegmentsAgree, hsegs]⟩

theorem Calm.still {s t : State} (hpending : t.pending = s.pending) (hnonce : t.engine.nonce = s.engine.nonce)
    (hsegs : t.segs = s.segs) (hhost : t.hostSide = s.hostSide) : Calm s t :=
  ⟨.still hpending hnonce hsegs, hhost⟩

/-! ### Segments -/

theorem withSeg_calm (s : State) (n : SegNo) (c : SegCtl) (h : s.segs[n].agrees → c.agrees) : Calm s (s.withSeg n c) := by
  refine ⟨⟨rfl, id, fun hs m => ?_⟩, rfl⟩
  rw [withSeg_getElem]
  split
  · exact h (hs n)
  · exact hs m

theorem removeOffers_calm (s : State) (nonce : BitVec 16) : Calm s (s.removeOffers nonce) := by
  refine ⟨⟨rfl, id, fun hs m => ?_⟩, rfl⟩
  rw [removeOffers_getElem]
  exact SegCtl.dropOffers_agrees (hs m) nonce

/-- A message joins a segment's queue, or is refused; an OFFER while the segment holds no notice. -/
theorem place_calm (s : State) (n : SegNo) (dest : Address) {m : Message} (hm : m.offerNonce = none) :
    Calm s (s.place n dest m) := by
  refine withSeg_calm s n _ fun h => ?_
  split
  · next hroom => exact SegCtl.enqueue_agrees h hroom (.inl hm)
  · exact SegCtl.refusePlacement_agrees h

/-- A reply stands on its calm operation, or on the state before it. -/
theorem replyOr_calm {done orig : State} (n : SegNo) (dest : Address) {m : Message} (h : Calm orig done)
    (hm : m.offerNonce = none ∨ done.segs[n].notices = []) : Calm orig (done.replyOr orig n dest m) := by
  rcases replyOr_cases done orig n dest m with ⟨hroom, hr⟩ | ⟨_, hr⟩
  · rw [hr]
    exact h.trans (withSeg_calm _ _ _ fun ha => SegCtl.enqueue_agrees ha hroom hm)
  · rw [hr]
    exact withSeg_calm _ _ _ SegCtl.refusePlacement_agrees

/-! ### Records, pool and slots -/

theorem setRecord_calm (s : State) (i : RecNo) (r : Record) : Calm s (s.setRecord i r) := .still rfl rfl rfl rfl

theorem changeRecord_calm (s : State) (i : RecNo) (r : Record) : Calm s (s.changeRecord i r) := .still rfl rfl rfl rfl

theorem emptyRecord_calm (s : State) (i : RecNo) : Calm s (s.emptyRecord i) := .still rfl rfl rfl rfl

theorem withPool_calm (s : State) (p : Pool) : Calm s (s.withPool p) := .still rfl rfl rfl rfl

theorem withSlot_calm (s : State) (k : SlotNo) (c : Option Claim) : Calm s (s.withSlot k c) := .still rfl rfl rfl rfl

theorem cancelExpiry_calm (s : State) (k : SlotNo) : Calm s (s.cancelExpiry k) := .still rfl rfl rfl rfl

theorem freeSlot_calm (s : State) (k : SlotNo) : Calm s (s.freeSlot k) := .still rfl rfl rfl rfl

theorem raise_calm (s : State) (f : StickyFlag) : Calm s (s.raise f) := .still rfl rfl rfl rfl

theorem pointTo_calm (s : State) (q : Requester) : Calm s (s.pointTo q) := .still rfl rfl rfl rfl

theorem drawNonce_calm (s : State) : Calm s s.drawNonce :=
  ⟨⟨rfl, fun _ => nextNonce_ne_zero _, id⟩, rfl⟩

theorem placeRecord_calm (s : State) (i : RecNo) (r : Record) : Calm s (s.placeRecord i r) := by
  rw [placeRecord_eq]
  split
  · exact (raise_calm s _).trans (setRecord_calm _ _ _)
  · exact setRecord_calm _ _ _

theorem releaseByMode_calm (s : State) (r : Record) (hold : Bool) : Calm s (s.releaseByMode r hold) := by
  unfold State.releaseByMode State.holdAddressOf State.freeAddressOf
  split <;> split
  · exact .refl s
  · exact withPool_calm ..
  · exact .refl s
  · exact withPool_calm ..

theorem endBinding_calm (s : State) (i : RecNo) (why : Reason) : Calm s (s.endBinding i why) := by
  unfold State.endBinding
  simp only
  split
  · exact changeRecord_calm ..
  · exact (changeRecord_calm s i _).trans (releaseByMode_calm _ _ true)

theorem withdraw_calm (s : State) (k : SlotNo) : Calm s (s.withdraw k) := by
  cases hc : s.slots[k] with
  | none =>
    rw [show s.withdraw k = s.freeSlot k by simp only [State.withdraw, hc]]
    exact freeSlot_calm s k
  | some c =>
    rw [withdraw_eq hc]
    exact (((removeOffers_calm s c.nonce).trans (freeSlot_calm _ k)).trans (withPool_calm _ _)).trans
      (emptyRecord_calm _ _)

theorem withdrawWhere_calm (s : State) (p : Claim → Bool) : Calm s (s.withdrawWhere p) := by
  unfold State.withdrawWhere
  generalize slotsDescending = ks
  induction ks generalizing s with
  | nil => exact .refl s
  | cons k ks ih =>
    rw [List.foldl_cons]
    split
    · exact (withdraw_calm s k).trans (ih _)
    · exact ih s

theorem withdrawForConversion_calm (s : State) (r : Record) (keep : Option Address) :
    Calm s (s.withdrawForConversion r keep) := by
  unfold State.withdrawForConversion
  split
  · exact .refl s
  split
  · exact freeSlot_calm s _
  · simp only
    split
    · exact (removeOffers_calm s _).trans (freeSlot_calm _ _)
    · exact ((removeOffers_calm s _).trans (freeSlot_calm _ _)).trans (withPool_calm _ _)

theorem placeForRecord_calm (s : State) (r : Record) {m : Message} (hm : m.offerNonce = none) :
    Calm s (s.placeForRecord r m) := by
  unfold State.placeForRecord
  split
  · exact .refl s
  · exact place_calm s _ _ hm

/-! ### Host commands -/

theorem bindStatic_calm (s : State) (id : ModuleId) (a cls : Byte) (groups : GroupSet) (lease : Byte) :
    Calm s (s.bindStatic id a cls groups lease).1 := by
  unfold State.bindStatic
  split
  · exact .refl s
  split
  · exact .refl s
  split
  · exact .refl s
  split
  · split
    · exact .refl s
    · split
      · exact .refl s
      · exact ((withdrawForConversion_calm s _ _).trans (withPool_calm _ _)).trans (changeRecord_calm _ _ _)
  · split
    · exact .refl s
    · split
      · exact .refl s
      · exact (placeRecord_calm s _ _).trans (withPool_calm _ _)

theorem addDeny_calm (s : State) (id : ModuleId) : Calm s (s.addDeny id).1 := by
  unfold State.addDeny
  split
  · exact .refl s
  split
  · split
    · exact .refl s
    · exact (withdrawForConversion_calm s _ _).trans (changeRecord_calm _ _ _)
  · split
    · exact .refl s
    · exact placeRecord_calm s _ _

theorem editRecord_calm (s : State) (i : RecNo) (expected : BitVec 16) (e : EditItems) :
    Calm s (s.editRecord i expected e).1 := by
  unfold State.editRecord
  simp only
  split
  · exact .refl s
  split
  · exact .refl s
  split
  · exact .refl s
  split
  · exact .refl s
  split
  · exact .refl s
  split
  · exact .refl s
  split
  · exact .refl s
  · exact changeRecord_calm ..

theorem retire_calm (s : State) (i : RecNo) (hold : Bool) : Calm s (s.retire i hold) := by
  have hlive (r : Record) (m : Message) (hm : m.offerNonce = none) :
      Calm s (((s.placeForRecord r m).releaseByMode r hold).emptyRecord i) :=
    ((placeForRecord_calm s r hm).trans (releaseByMode_calm _ _ _)).trans (emptyRecord_calm _ _)
  unfold State.retire
  simp only
  split
  · exact (withdrawForConversion_calm s _ _).trans (emptyRecord_calm _ _)
  · exact hlive _ _ rfl
  · exact hlive _ _ rfl
  · refine Calm.trans ?_ (emptyRecord_calm _ _)
    split
    · exact releaseByMode_calm ..
    · exact .refl s
  · exact emptyRecord_calm s i
  · exact .refl s

theorem retireRecord_calm (s : State) (i : RecNo) (expected : BitVec 16) (mode : Byte) :
    Calm s (s.retireRecord i expected mode).1 := by
  unfold State.retireRecord
  simp only
  split
  · exact .refl s
  split
  · exact .refl s
  split
  · exact retire_calm ..
  split
  · exact retire_calm ..
  · exact .refl s

theorem collectAttention_calm (s : State) (start : RecNo) : Calm s (s.collectAttention start).1 := by
  unfold State.collectAttention
  split
  · exact .refl s
  · simp only
    split
    · exact emptyRecord_calm ..
    · exact setRecord_calm ..

theorem reserveAddress_calm (s : State) (a : Address) : Calm s (s.reserveAddress a).1 := by
  unfold State.reserveAddress
  split
  · exact .refl s
  · exact withPool_calm ..
  · exact withPool_calm ..
  · exact .refl s
  · exact .refl s
  · exact .refl s

theorem freeReservation_calm (s : State) (a : Address) : Calm s (s.freeReservation a).1 := by
  unfold State.freeReservation
  split
  · exact .refl s
  · exact withPool_calm ..
  · exact .refl s

theorem configure_calm (s : State) (p : List Byte) : Calm s (s.configure p).1 := by
  unfold State.configure
  split
  · split
    · exact .refl s
    · exact .still rfl rfl rfl rfl
  · exact .refl s

theorem writeRule_calm (s : State) (p : List Byte) : Calm s (s.writeRule p).1 := by
  unfold State.writeRule
  split
  · exact .refl s
  · split
    · exact .refl s
    · exact .still rfl rfl rfl rfl

theorem writeGroup_calm (s : State) (p : List Byte) : Calm s (s.writeGroup p).1 := by
  unfold State.writeGroup
  split
  · exact .refl s
  · exact .refl s
  · exact .refl s
  · exact .still rfl rfl rfl rfl

theorem disableSegment_calm (s : State) (n : SegNo) : Calm s (s.disableSegment n) :=
  (withdrawWhere_calm s _).trans (withSeg_calm _ n _ fun _ =>
    SegCtl.cleared_down_agrees _ (st := .disabled) (f := false) (.inl rfl) nofun)

theorem enableSegment_calm (s : State) (n : SegNo) : Calm s (s.enableSegment n) := by
  have henable (u : State) := withSeg_calm u n _ fun _ => SegCtl.cleared_up_agrees u.segs[n]
  unfold State.enableSegment
  simp only
  split
  · exact (withdrawWhere_calm s _).trans (henable _)
  · exact henable s

theorem setSegment_calm (s : State) (f : SegFields) : Calm s (s.setSegment f) :=
  (withSeg_calm s f.segment { s.segs[f.segment] with bitRate := f.bitRate } fun h =>
    SegCtl.agrees_of_less h rfl rfl rfl rfl rfl rfl (.inl rfl) id rfl).trans (.still rfl rfl rfl rfl)

theorem controlSegment_calm (s : State) (f : SegFields) : Calm s (s.controlSegment f) := by
  have hclear : Calm s (if f.clearFlags then s.clearSegFlags f.segment else s) := by
    split
    · exact withSeg_calm _ _ _ fun h => SegCtl.agrees_of_less h rfl rfl rfl rfl rfl rfl (.inl rfl) id rfl
    · exact .refl s
  unfold State.controlSegment
  simp only
  generalize (if f.clearFlags then s.clearSegFlags f.segment else s) = s1 at hclear ⊢
  have hdisable : Calm s1 (if f.enable = false ∧ s1.segs[f.segment].state ≠ .disabled then
      s1.disableSegment f.segment else s1) := by
    split
    · exact disableSegment_calm ..
    · exact .refl s1
  generalize (if f.enable = false ∧ s1.segs[f.segment].state ≠ .disabled then
    s1.disableSegment f.segment else s1) = s2 at hdisable ⊢
  have hset := (hclear.trans hdisable).trans (setSegment_calm s2 f)
  split
  · exact hset.trans (enableSegment_calm _ _)
  · exact hset

theorem segmentControl_calm (s : State) (p : List Byte) : Calm s (s.segmentControl p).1 := by
  unfold State.segmentControl
  split
  · exact .refl s
  · split
    · exact .refl s
    · exact controlSegment_calm ..

/-! ### Claim frames -/

theorem createClaim_calm (s : State) (d : Terms) (id : ModuleId) (n : SegNo) (source : Address) (k : SlotNo) (i : RecNo)
    (a : Address) : Calm s (s.createClaim d id n source k i a) :=
  (((placeRecord_calm s i (d.pendingRecord id a n k)).trans (withPool_calm _ _)).trans (withSlot_calm _ k _)).trans
    (drawNonce_calm _)

theorem repeatOffer_calm (s : State) (k : SlotNo) (c : Claim) (n : SegNo) (source : Address) :
    Calm s (s.repeatOffer k c n source) :=
  (((removeOffers_calm s c.nonce).trans (withSlot_calm _ k _)).trans (cancelExpiry_calm _ k)).trans
    (changeRecord_calm _ c.record _)

theorem commit_calm (s : State) (k : SlotNo) (c : Claim) (n : SegNo) : Calm s (s.commit k c n) :=
  (((removeOffers_calm s c.nonce).trans (freeSlot_calm _ k)).trans (changeRecord_calm _ c.record _)).trans
    (withPool_calm _ _)

theorem endDeclined_calm (s : State) (k : SlotNo) (c : Claim) : Calm s (s.endDeclined k c) :=
  ((removeOffers_calm s c.nonce).trans (freeSlot_calm _ k)).trans (emptyRecord_calm _ c.record)

theorem reoffer_calm (s : State) (k : SlotNo) (c : Claim) (a : Address) (n : SegNo) (source : Address) :
    Calm s (s.reoffer k c a n source) :=
  (((((removeOffers_calm s c.nonce).trans (withSlot_calm _ k _)).trans (cancelExpiry_calm _ k)).trans
    (withPool_calm _ _)).trans (changeRecord_calm _ c.record _)).trans (drawNonce_calm _)

theorem dropOffers_notices (c : SegCtl) (nonce : BitVec 16) : (c.dropOffers nonce).notices = c.notices := by
  unfold SegCtl.dropOffers
  split <;> rfl

theorem createClaim_segs (s : State) (d : Terms) (id : ModuleId) (n : SegNo) (source : Address) (k : SlotNo) (i : RecNo)
    (a : Address) : (s.createClaim d id n source k i a).segs = s.segs := by
  show (s.placeRecord i (d.pendingRecord id a n k)).segs = s.segs
  rw [placeRecord_eq, State.setRecord_segs]
  split <;> rfl

theorem announceNew_calm (s : State) (n : SegNo) (source : Address) (id : ModuleId) (cls preferred : Byte)
    (hnotices : s.segs[n].notices = []) : Calm s (s.announceNew n source id cls preferred) := by
  unfold State.announceNew
  split
  · exact place_calm _ _ _ rfl
  split
  · exact place_calm _ _ _ rfl
  split
  · exact place_calm _ _ _ rfl
  split
  · exact place_calm _ _ _ rfl
  · exact replyOr_calm _ _ (createClaim_calm ..) (.inr (by rw [createClaim_segs]; exact hnotices))

theorem announcePending_calm (s : State) (i : RecNo) (n : SegNo) (source : Address) (id : ModuleId)
    (hnotices : s.segs[n].notices = []) : Calm s (s.announcePending i n source id) := by
  unfold State.announcePending
  split
  · exact .refl s
  split
  · exact .refl s
  next c _ =>
  split
  · refine replyOr_calm _ _ (repeatOffer_calm ..) (.inr ?_)
    show (s.removeOffers c.nonce).segs[n].notices = []
    rw [removeOffers_getElem, dropOffers_notices]
    exact hnotices
  · exact replyOr_calm _ _ (withdraw_calm ..) (.inl rfl)

theorem receiveStatic_calm (s : State) (i : RecNo) (n : SegNo) (source : Address) (id : ModuleId) :
    Calm s (s.receiveStatic i n source id) := replyOr_calm _ _ (changeRecord_calm ..) (.inl rfl)

theorem announceMove_calm (s : State) (i : RecNo) (n : SegNo) (source : Address) (id : ModuleId) :
    Calm s (s.announceMove i n source id) := by
  unfold State.announceMove
  split <;> exact replyOr_calm _ _ (changeRecord_calm ..) (.inl rfl)

theorem announceRunning_calm (s : State) (n : SegNo) (source : Address) (id : ModuleId) (cls preferred : Byte)
    (hnotices : s.segs[n].notices = []) : Calm s (s.announceRunning n source id cls preferred) := by
  unfold State.announceRunning
  split
  · exact announceNew_calm s n source id cls preferred hnotices
  simp only
  split
  · exact replyOr_calm _ _ (changeRecord_calm ..) (.inl rfl)
  split
  · exact announcePending_calm s _ n source id hnotices
  split
  · exact receiveStatic_calm ..
  split
  · exact replyOr_calm _ _ (changeRecord_calm ..) (.inl rfl)
  · exact announceMove_calm ..

theorem announceTaken_calm (s : State) (n : SegNo) (source : Address) (id : ModuleId) (cls preferred : Byte)
    (hnotices : s.segs[n].notices = []) : Calm s (s.announceTaken n source id cls preferred) := by
  unfold State.announceTaken
  split
  · exact place_calm _ _ _ rfl
  · exact place_calm _ _ _ rfl
  · exact announceRunning_calm s n source id cls preferred hnotices

theorem acceptUnmatched_calm (s : State) (n : SegNo) (source : Address) (id : ModuleId) (a : Address) :
    Calm s (s.acceptUnmatched n source id a) := by
  unfold State.acceptUnmatched
  split
  · exact place_calm _ _ _ rfl
  simp only
  split
  · exact place_calm _ _ _ rfl
  split
  · exact receiveStatic_calm ..
  · exact place_calm _ _ _ rfl

theorem acceptTaken_calm (s : State) (n : SegNo) (source : Address) (id : ModuleId) (nonce : BitVec 16) (a : Address) :
    Calm s (s.acceptTaken n source id nonce a) := by
  unfold State.acceptTaken
  split
  · exact place_calm _ _ _ rfl
  · exact place_calm _ _ _ rfl
  unfold State.acceptRunning
  split
  · exact replyOr_calm _ _ (commit_calm ..) (.inl rfl)
  · exact acceptUnmatched_calm ..

theorem declineMatched_calm (s : State) (n : SegNo) (source : Address) (id : ModuleId) (k : SlotNo) (c : Claim)
    (hnotices : s.segs[n].notices = []) : Calm s (s.declineMatched n source id k c) := by
  have hhold : Calm s (s.holdDeclined c) := withPool_calm ..
  unfold State.declineMatched
  simp only
  split
  · refine replyOr_calm _ _ (hhold.trans (reoffer_calm ..)) (.inr ?_)
    show ((s.holdDeclined c).removeOffers c.nonce).segs[n].notices = []
    rw [removeOffers_getElem, dropOffers_notices]
    exact hnotices
  · exact replyOr_calm _ _ (hhold.trans (endDeclined_calm ..)) (.inl rfl)

theorem declineTaken_calm (s : State) (n : SegNo) (source : Address) (id : ModuleId) (nonce : BitVec 16)
    (hnotices : s.segs[n].notices = []) : Calm s (s.declineTaken n source id nonce) := by
  unfold State.declineTaken
  split
  · exact .refl s
  · exact .refl s
  split
  · exact declineMatched_calm s n source id _ _ hnotices
  · exact .refl s

/-! ### Binding frames -/

theorem heartbeatTaken_calm (s : State) (n : SegNo) (a : Address) (id : ModuleId) : Calm s (s.heartbeatTaken n a id) := by
  unfold State.heartbeatTaken
  split
  · exact .refl s
  · exact .refl s
  unfold State.heartbeatRunning
  split
  · exact place_calm _ _ _ rfl
  split
  · exact changeRecord_calm ..
  · exact replyOr_calm _ _ (changeRecord_calm ..) (.inl rfl)

theorem releaseTaken_calm (s : State) (n : SegNo) (a : Address) (id : ModuleId) : Calm s (s.releaseTaken n a id) := by
  unfold State.releaseTaken
  split
  · exact .refl s
  · exact .refl s
  unfold State.releaseRunning
  split
  · exact place_calm _ _ _ rfl
  split
  · exact endBinding_calm ..
  · exact .refl s

theorem resolveTaken_calm (s : State) (n : SegNo) (a : Address) (requester : ModuleId) (q : Question) :
    Calm s (s.resolveTaken n a requester q) := by
  unfold State.resolveTaken
  split <;> exact place_calm _ _ _ rfl

/-! ### Notices, windows and visits -/

theorem takeNotice_calm (s : State) (n : SegNo) : Calm s (s.takeNotice n) :=
  (pointTo_calm s _).trans (withSeg_calm _ _ _ fun h =>
    SegCtl.agrees_of_less h rfl rfl rfl rfl rfl rfl (.inr rfl) id rfl)

theorem noteSent_calm (s : State) (nonce : BitVec 16) : Calm s (s.noteSent nonce) := by
  unfold State.noteSent
  split
  · exact .refl s
  · exact (withSlot_calm s _ _).trans (cancelExpiry_calm _ _)

theorem noteDropped_calm (s : State) (n : SegNo) (nonce : BitVec 16) : Calm s (s.noteDropped n nonce) := by
  unfold State.noteDropped
  split
  · exact .refl s
  split
  · exact withdraw_calm ..
  · exact .refl s

theorem takeFaultNotice_calm (s : State) (n : SegNo) : Calm s (s.takeFaultNotice n) := by
  have hfault : Calm s ((s.pointTo (.seg n)).withSeg n { s.segs[n] with faultNotice := false }) :=
    (pointTo_calm s _).trans (withSeg_calm _ _ _ fun h =>
      SegCtl.agrees_of_less (c := s.segs[n]) h rfl rfl rfl rfl rfl rfl (.inl rfl) nofun rfl)
  unfold State.takeFaultNotice State.withdrawSegment
  exact hfault.trans (withdrawWhere_calm _ _)

theorem countWindows_calm (s : State) : Calm s s.countWindows := .still rfl rfl rfl rfl

theorem runOutWindow_calm (s : State) (k : SlotNo) : Calm s (s.runOutWindow k) := by
  unfold State.runOutWindow
  split
  · exact .refl s
  split
  · exact .still rfl rfl rfl rfl
  · exact .refl s

theorem holdListStep_calm (s : State) : Calm s s.holdListStep := by
  unfold State.holdListStep
  generalize s.pool.countDown = p
  exact .still rfl rfl rfl rfl

theorem visitRecord_calm (s : State) (i : RecNo) : Calm s (s.visitRecord i) := by
  have hprobe (u : State) : Calm u (u.probe i) := placeForRecord_calm _ _ rfl
  unfold State.visitRecord
  split
  · split
    · exact (changeRecord_calm s i _).trans (hprobe _)
    · exact changeRecord_calm ..
  · split
    · exact endBinding_calm ..
    · exact (changeRecord_calm s i _).trans (hprobe _)
  · exact .refl s

theorem flushRecord_calm (s : State) (i : RecNo) : Calm s (s.flushRecord i) := by
  have hcount (u : State) : Calm u (u.withEngine { u.engine with emptied := u.engine.emptied + 1 }) :=
    .still rfl rfl rfl rfl
  have hfree := releaseByMode_calm s s.records[i] false
  rw [show s.releaseByMode s.records[i] false = s.freeAddressOf s.records[i] from rfl] at hfree
  unfold State.flushRecord
  split
  · exact (hfree.trans (emptyRecord_calm _ i)).trans (hcount _)
  · exact .refl s

theorem broadcastReannounce_calm (s : State) : Calm s s.broadcastReannounce := by
  unfold State.broadcastReannounce
  generalize ([0, 1, 2, 3] : List SegNo) = ns
  induction ns generalizing s with
  | nil => exact .refl s
  | cons n ns ih => exact (place_calm s n _ rfl).trans (ih _)

theorem enterFault_calm (s : State) (n : SegNo) : Calm s (s.enterFault n) :=
  (withSeg_calm s n _ fun _ =>
    SegCtl.cleared_down_agrees s.segs[n] (st := .fault) (f := true) (.inr rfl) fun _ => rfl).trans (raise_calm _ _)

end Sys2Proof.Machine
end

section
/-! PROOF. Every command answers a next state with the waiting commands as they stood, and keeps the segments, the nonce
counter, the credits and the modes in agreement: O1, O53, O54 and O56. -/

namespace Sys2Proof.Machine

/-! ### The agreement of the modes, in two parts -/

/-- The modes agree with the sweep, the flush and the owed ticks. -/
def Engine.agrees (e : Engine) : Prop :=
  (e.flushing = true ↔ e.mode = .flushing) ∧ (e.sweeping = true → e.mode = .running) ∧ e.owed ≤ 2
    ∧ (e.mode = .halted → e.owed = 0)

/-- The requests held agree with a mode: the head alone is taken, in FLUSHING, and is a FLUSH_DYNAMIC. -/
def requestsAgree (m : Mode) (rs : List Request) : Prop :=
  (m = .flushing → ∃ r ∈ rs.head?, r.taken = true ∧ r.command = 0x31)
    ∧ (m ≠ .flushing → ∀ r ∈ rs, r.taken = false) ∧ (∀ r ∈ rs.tail, r.taken = false)

theorem longOperationsAgree_iff {s : State} :
    LongOperationsAgree s ↔ s.engine.agrees ∧ requestsAgree s.engine.mode s.port.requests := by
  simp only [LongOperationsAgree, Engine.agrees, requestsAgree, and_assoc]

/-- Outside FLUSHING the requests agree when none is taken. -/
theorem requestsAgree_of_not_flushing {m : Mode} (hm : m ≠ .flushing) {rs : List Request} :
    requestsAgree m rs ↔ ∀ r ∈ rs, r.taken = false :=
  ⟨fun h => h.2.1 hm, fun h => ⟨fun hf => absurd hf hm, fun _ => h, fun r hr => h r (List.mem_of_mem_tail hr)⟩⟩

/-! ### Sound operations -/

/-- A mild operation that keeps the credits and the modes in agreement. -/
structure Sound (s t : State) : Prop extends Mild s t where
  credits : CreditsHold s → CreditsHold t
  modes : LongOperationsAgree s → LongOperationsAgree t

theorem Sound.refl (s : State) : Sound s s := ⟨.refl s, id, id⟩

theorem Sound.trans {s t u : State} (h : Sound s t) (h' : Sound t u) : Sound s u :=
  ⟨h.toMild.trans h'.toMild, fun hc => h'.credits (h.credits hc), fun hm => h'.modes (h.modes hm)⟩

theorem Calm.sound {s t : State} (h : Calm s t) : Sound s t := by
  have hhost := h.host
  simp only [State.hostSide, Prod.mk.injEq] at hhost
  obtain ⟨hrequests, hresponses, hcredits, hmode, hsweeping, howed, hflushing⟩ := hhost
  exact ⟨h.toMild, fun hs => by simpa only [CreditsHold, hrequests, hresponses, hcredits] using hs,
    fun hs => by simpa only [LongOperationsAgree, hrequests, hmode, hsweeping, howed, hflushing] using hs⟩

/-- The Segment Controllers, the nonce counter and the host's side of the state stand. -/
theorem Sound.still {s t : State} (hpending : t.pending = s.pending) (hnonce : t.engine.nonce = s.engine.nonce)
    (hsegs : t.segs = s.segs) (hhost : t.hostSide = s.hostSide) : Sound s t :=
  (Calm.still hpending hnonce hsegs hhost).sound

/-- The Table Engine's state changes, and the port does not but for its flags. -/
theorem Sound.ofEngine {s t : State} (h : Mild s t) (hrequests : t.port.requests = s.port.requests)
    (hresponses : t.port.responses = s.port.responses) (hcredits : t.port.credits = s.port.credits)
    (hengine : s.engine.agrees → t.engine.agrees) (hmode : t.engine.mode = s.engine.mode) : Sound s t := by
  refine ⟨h, fun hs => by rwa [CreditsHold, hrequests, hresponses, hcredits], fun hs => ?_⟩
  rw [longOperationsAgree_iff] at hs ⊢
  rw [hmode, hrequests]
  exact ⟨hengine hs.1, hs.2⟩

/-! ### Answers -/

/-- The operation of a served request: the port stands, and a mode other than FLUSHING gives way to none but such. -/
structure Serves (s t : State) : Prop extends Mild s t where
  requests : t.port.requests = s.port.requests
  responses : t.port.responses = s.port.responses
  credits : t.port.credits = s.port.credits
  engine : s.engine.agrees → t.engine.agrees
  mode : s.engine.mode ≠ .flushing → t.engine.mode ≠ .flushing

theorem Calm.serves {s t : State} (h : Calm s t) : Serves s t := by
  have hhost := h.host
  simp only [State.hostSide, Prod.mk.injEq] at hhost
  obtain ⟨hrequests, hresponses, hcredits, hmode, hsweeping, howed, hflushing⟩ := hhost
  exact ⟨h.toMild, hrequests, hresponses, hcredits,
    fun hs => by simpa only [Engine.agrees, hmode, hsweeping, howed, hflushing] using hs, fun hs => by rwa [hmode]⟩

theorem answer_mild (s : State) (r : Request) (a : Answer) : Mild s (s.answer r a) := .still rfl rfl rfl

/-- A granted request is performed and answered: its response takes the place it held. -/
theorem Serves.sound_answer {s t : State} (h : Serves s t) {r : Request} (hgranted : s.granted = some (.request r))
    (a : Answer) : Sound s (t.answer r a) := by
  obtain ⟨rest, hrequests, huntaken, _⟩ := granted_request hgranted
  refine ⟨h.toMild.trans (answer_mild t r a), fun hs => ?_, fun hs => ?_⟩
  · rw [CreditsHold] at hs ⊢
    simp only [State.answer_port, h.requests, h.responses, h.credits, hrequests, List.tail_cons, List.length_append,
      List.length_singleton]
    rw [hrequests, List.length_cons] at hs
    omega
  · rw [longOperationsAgree_iff] at hs ⊢
    obtain ⟨hengine, hheld⟩ := hs
    have hmode : s.engine.mode ≠ .flushing := by
      intro hf
      obtain ⟨r', hr', htaken, _⟩ := hheld.1 hf
      rw [hrequests, List.head?_cons, Option.mem_some_iff] at hr'
      rw [← hr', huntaken] at htaken
      cases htaken
    refine ⟨h.engine hengine, ?_⟩
    rw [State.answer_engine, requestsAgree_of_not_flushing (h.mode hmode), State.answer_port, h.requests]
    exact fun r hr => hheld.2.2 r hr

theorem serve_sound {s : State} {code : Byte} {length : Nat} {run : List Byte → State → State × Answer}
    (hrun : ∀ p u, Serves u (run p u).1) : Sound s (s.serve code length run) := by
  have hpoint := pointTo_calm s .host
  have hgrant {u : State} (h : Serves (s.pointTo .host) u) : Serves s u :=
    ⟨hpoint.toMild.trans h.toMild, h.requests, h.responses, h.credits, h.engine, h.mode⟩
  rcases serve_cases s code length run with ⟨r, hr, _, _, h⟩ | ⟨r, hr, _, _, h⟩ | h
  · rw [h]; exact (hgrant (hrun r.payload _)).sound_answer hr _
  · rw [h]; exact hpoint.serves.sound_answer hr _
  · rw [h]; exact .refl s

/-- A served command whose operation is calm. -/
theorem serve_calm {s : State} {code : Byte} {length : Nat} {run : List Byte → State → State × Answer}
    (hrun : ∀ p u, Calm u (run p u).1) : Sound s (s.serve code length run) :=
  serve_sound fun p u => (hrun p u).serves

/-- A served command that only reads. -/
theorem serve_unchanged {s : State} {code : Byte} {length : Nat} {run : List Byte → State → State × Answer}
    (hrun : ∀ p u, (run p u).1 = u) : Sound s (s.serve code length run) :=
  serve_calm fun p u => by rw [hrun]; exact .refl u

/-! ### Modes and the flush -/

theorem setMode_serves (s : State) (arg : Byte) : Serves s (s.setMode arg).1 := by
  unfold State.setMode
  split
  · unfold State.setModeRun
    split
    · next h =>
      refine ⟨.still rfl rfl rfl, rfl, rfl, rfl, fun hs => ?_, fun _ => nofun⟩
      obtain ⟨hflush, hsweep, howed, _⟩ := hs
      refine ⟨?_, fun _ => rfl, howed, nofun⟩
      show s.engine.flushing = true ↔ Mode.running = .flushing
      rw [hflush, h]
      decide
    · exact (Calm.refl s).serves
    · exact (Calm.refl s).serves
  split
  · unfold State.setModeHalt
    split
    · next h =>
      have hall := withdrawWhere_calm s fun _ => true
      simp only
      rw [State.withdrawAll]
      generalize s.withdrawWhere (fun _ => true) = t at hall
      obtain ⟨hmild, hrequests, hresponses, hcredits, hengine, _⟩ := hall.serves
      refine ⟨hmild.trans (.still rfl rfl rfl), hrequests, hresponses, hcredits, fun hs => ?_, fun _ => nofun⟩
      have hrunning : t.engine.mode = .running := by
        have := hall.host
        simp only [State.hostSide, Prod.mk.injEq] at this
        rw [this.2.2.2.1, h]
      obtain ⟨hflush, _, _, _⟩ := hengine hs
      refine ⟨?_, nofun, Nat.zero_le _, fun _ => rfl⟩
      show t.engine.flushing = true ↔ Mode.halted = .flushing
      rw [hflush, hrunning]
      decide
    · exact (Calm.refl s).serves
    · exact (Calm.refl s).serves
  · exact (Calm.refl s).serves

/-- The flush starts: the request at the head, a FLUSH_DYNAMIC, is marked taken. -/
theorem startFlush_sound {s : State} {r : Request} {rest : List Request} (hrequests : s.port.requests = r :: rest)
    (hcommand : r.command = flushCode) (hsweeping : s.engine.sweeping = false) : Sound s s.startFlush := by
  have hall := withdrawWhere_calm s fun _ => true
  unfold State.startFlush State.withdrawAll
  simp only
  generalize s.withdrawWhere (fun _ => true) = t at hall
  have hhost := hall.host
  simp only [State.hostSide, Prod.mk.injEq] at hhost
  obtain ⟨hreq, hresponses, hcredits, hmode', hsweeping', howed, hflushing⟩ := hhost
  rw [hrequests] at hreq
  have hmark : t.port.markTaken = { t.port with requests := { r with taken := true } :: rest } := by
    rw [Port.markTaken]
    split
    · next h => rw [h] at hreq; cases hreq
    · next r' rest' h => rw [h] at hreq; cases hreq; rfl
  refine ⟨hall.toMild.trans (.still rfl rfl rfl), fun hs => ?_, fun hs => ?_⟩
  · rw [CreditsHold, hrequests] at hs
    rw [CreditsHold, hmark]
    simp only [hresponses, hcredits]
    exact hs
  · obtain ⟨⟨_, _, howedLe, _⟩, hheld⟩ := longOperationsAgree_iff.mp hs
    refine longOperationsAgree_iff.mpr ⟨⟨iff_of_true rfl rfl, fun h => ?_, ?_, nofun⟩, fun _ => ?_, fun h => absurd rfl h, ?_⟩
    · rw [show t.engine.sweeping = _ from hsweeping', hsweeping] at h; cases h
    · show t.engine.owed ≤ 2
      rw [howed]; exact howedLe
    · rw [hmark]; exact ⟨_, rfl, rfl, hcommand⟩
    · rw [hmark]
      intro r' hr'
      exact hheld.2.2 r' (by rw [hrequests]; exact hr')

theorem execFlushDynamic_sound (s : State) : ∃ t, execFlushDynamic s = .next t ∧ Sound s t := by
  refine ⟨_, rfl, ?_⟩
  split
  swap
  · exact .refl s
  next r hr =>
  have hpoint := pointTo_calm s .host
  split
  swap
  · exact .refl s
  next hcommand =>
  split
  · exact hpoint.serves.sound_answer hr _
  obtain ⟨rest, hrequests, _, hnot⟩ := granted_request hr
  split
  · exact hpoint.serves.sound_answer hr _
  · next hmode =>
    have hsweeping : s.engine.sweeping = false := by
      cases hs : s.engine.sweeping with
      | false => rfl
      | true => exact absurd ⟨hcommand, hmode, hs⟩ hnot
    exact hpoint.sound.trans (startFlush_sound (s := s.pointTo .host) hrequests hcommand hsweeping)
  · exact .refl s

theorem sweepFromOwed_mild (s : State) : Mild s s.sweepFromOwed := by
  unfold State.sweepFromOwed
  split
  · exact .still rfl rfl rfl
  · exact .refl s

theorem sweepFromOwed_port (s : State) : s.sweepFromOwed.port = s.port := by
  unfold State.sweepFromOwed
  split <;> rfl

theorem sweepFromOwed_mode (s : State) : s.sweepFromOwed.engine.mode = s.engine.mode := by
  unfold State.sweepFromOwed
  split <;> rfl

/-- An owed tick starts a sweep in RUNNING. -/
theorem sweepFromOwed_agrees {s : State} (hmode : s.engine.mode = .running) (hs : s.engine.agrees) :
    s.sweepFromOwed.engine.agrees := by
  unfold State.sweepFromOwed
  split
  · obtain ⟨hflush, _, howed, hhalted⟩ := hs
    exact ⟨hflush, fun _ => hmode, Nat.le_trans (Nat.sub_le _ _) howed, fun h => absurd (hmode.symm.trans h) nofun⟩
  · exact hs

theorem sweepFromOwed_sound {s : State} (hmode : s.engine.mode = .running) : Sound s s.sweepFromOwed := by
  have hport := sweepFromOwed_port s
  exact .ofEngine (sweepFromOwed_mild s) (by rw [hport]) (by rw [hport]) (by rw [hport]) (sweepFromOwed_agrees hmode)
    (sweepFromOwed_mode s)

theorem answerFlush_mild (s : State) : Mild s s.answerFlush := by
  unfold State.answerFlush
  split
  · exact .refl s
  · exact answer_mild ..

/-- The state in which a flush has ended, but for its answer. -/
def State.afterFlush (s : State) : State :=
  (s.withEngine { s.engine with mode := .running, flushing := false, flushNext := 0 }).sweepFromOwed

theorem afterFlush_port (s : State) : s.afterFlush.port = s.port := sweepFromOwed_port _

theorem afterFlush_mode (s : State) : s.afterFlush.engine.mode = .running := sweepFromOwed_mode _

theorem afterFlush_mild (s : State) : Mild s s.afterFlush :=
  Mild.trans (t := s.withEngine { s.engine with mode := .running, flushing := false, flushNext := 0 })
    (.still rfl rfl rfl) (sweepFromOwed_mild _)

theorem afterFlush_agrees {s : State} (hs : s.engine.agrees) : s.afterFlush.engine.agrees := by
  obtain ⟨_, _, howed, _⟩ := hs
  exact sweepFromOwed_agrees rfl ⟨iff_of_false nofun nofun, fun _ => rfl, howed, nofun⟩

/-- The flush ends: the request that started it, taken, is answered and leaves its queue. -/
theorem endFlush_sound (s : State) : Sound s s.endFlush := by
  have hcast := broadcastReannounce_calm s
  unfold State.endFlush
  simp only
  generalize s.broadcastReannounce = t at hcast
  refine hcast.sound.trans ?_
  rw [← State.afterFlush]
  have hport := afterFlush_port t
  have hmode := afterFlush_mode t
  refine ⟨(afterFlush_mild t).trans (answerFlush_mild _), fun hs => ?_, fun hs => ?_⟩
  · rw [CreditsHold, ← hport] at hs
    unfold State.answerFlush
    split
    · exact hs
    · next r rest hr =>
      rw [hr, List.length_cons] at hs
      simp only [CreditsHold, State.answer_port, hr, List.tail_cons, List.length_append, List.length_singleton]
      omega
  · obtain ⟨hengine, _, _, htail⟩ := longOperationsAgree_iff.mp hs
    have hengine := afterFlush_agrees hengine
    rw [← hport] at htail
    generalize t.afterFlush = u at *
    have hrunning : u.engine.mode ≠ .flushing := by rw [hmode]; decide
    unfold State.answerFlush
    split
    · next hr =>
      rw [longOperationsAgree_iff, requestsAgree_of_not_flushing hrunning, hr]
      exact ⟨hengine, nofun⟩
    · rw [longOperationsAgree_iff, State.answer_engine, requestsAgree_of_not_flushing hrunning]
      exact ⟨hengine, htail⟩

theorem execFlushStep_sound (s : State) : ∃ t, execFlushStep s = .next t ∧ Sound s t := by
  refine ⟨_, rfl, ?_⟩
  split
  swap
  · exact .refl s
  next i _ =>
  have hrecord := ((pointTo_calm s .timer).trans (flushRecord_calm _ i)).sound
  simp only
  generalize (s.pointTo .timer).flushRecord i = t at hrecord ⊢
  split
  · exact hrecord.trans (endFlush_sound t)
  · exact hrecord.trans (.still rfl rfl rfl rfl)

/-! ### Time and sweeps -/

theorem oweTick_sound {s : State} (hmode : s.engine.mode ≠ .halted) : Sound s s.oweTick := by
  unfold State.oweTick
  split
  · next howed =>
    refine .ofEngine (.still rfl rfl rfl) rfl rfl rfl (fun hs => ?_) rfl
    obtain ⟨hflush, hsweep, _, _⟩ := hs
    exact ⟨hflush, hsweep, howed, fun h => absurd h hmode⟩
  · exact (raise_calm s _).sound

theorem startSweep_sound {s : State} (hmode : s.engine.mode = .running) :
    Sound s (s.withEngine s.engine.startSweep) := by
  refine .ofEngine (.still rfl rfl rfl) rfl rfl rfl (fun hs => ?_) rfl
  obtain ⟨hflush, _, howed, hhalted⟩ := hs
  exact ⟨hflush, fun _ => hmode, howed, hhalted⟩

theorem deliverTick_sound (s : State) : Sound s s.deliverTick := by
  unfold State.deliverTick
  split
  · exact .refl s
  · next h =>
    split
    · exact oweTick_sound (by rw [h]; decide)
    · exact startSweep_sound h
  · next h => exact oweTick_sound (by rw [h]; decide)

theorem withAging_calm (s : State) (a : Aging) : Calm s { s with aging := a } := .still rfl rfl rfl rfl

theorem completeMillisecond_sound (s : State) : Sound s s.completeMillisecond := by
  have hcount := countWindows_calm s
  unfold State.completeMillisecond
  simp only
  generalize s.countWindows = t at hcount ⊢
  split
  · exact (hcount.trans (withAging_calm t _)).sound.trans (deliverTick_sound _)
  · exact (hcount.trans (withAging_calm t _)).sound

theorem refclkPeriod_sound (s : State) : Sound s s.refclkPeriod := by
  unfold State.refclkPeriod
  split
  · split
    · exact completeMillisecond_sound s
    · exact (withAging_calm s _).sound
  · exact .refl s

theorem endSweep_sound {s : State} (hmode : LongOperationsAgree s → s.engine.mode = .running) : Sound s s.endSweep := by
  have hend : Sound s (s.withEngine { s.engine with sweeping := false, sweepNext := .holdList }) := by
    refine .ofEngine (.still rfl rfl rfl) rfl rfl rfl (fun hs => ?_) rfl
    obtain ⟨hflush, _, howed, hhalted⟩ := hs
    exact ⟨hflush, nofun, howed, hhalted⟩
  unfold State.endSweep
  simp only
  split
  · exact hend
  · refine ⟨hend.toMild.trans (sweepFromOwed_mild _), fun hs => ?_, fun hs => ?_⟩
    · rw [CreditsHold, sweepFromOwed_port]; exact hend.credits hs
    · exact (sweepFromOwed_sound (s := s.withEngine { s.engine with sweeping := false, sweepNext := .holdList })
        (hmode hs)).modes (hend.modes hs)

/-- A visit of a sweep in flight: the sweep goes on, or ends in RUNNING. -/
theorem sweepVisit_sound {s : State} (i : RecNo) (hsweeping : s.engine.sweeping = true) : Sound s (s.sweepVisit i) := by
  have hvisit := (pointTo_calm s .timer).trans (visitRecord_calm (s.pointTo .timer) i)
  unfold State.sweepVisit
  simp only
  generalize (s.pointTo .timer).visitRecord i = t at hvisit ⊢
  have hhost := hvisit.host
  simp only [State.hostSide, Prod.mk.injEq] at hhost
  obtain ⟨_, _, _, _, hsweeping', _, _⟩ := hhost
  refine hvisit.sound.trans ?_
  split
  · exact endSweep_sound fun hs => (longOperationsAgree_iff.mp hs).1.2.1 (hsweeping'.trans hsweeping)
  · exact Sound.still rfl rfl rfl rfl

/-! ### Transactions -/

theorem transaction_sound {s : State} {out : List Byte} {act : State → State} (hact : ∀ u, Sound u (act u)) :
    Sound s (s.transaction out act) := by
  have hsdo (bs : List Byte) : Sound s (s.withSdo bs) := Sound.still rfl rfl rfl rfl
  unfold State.transaction
  split
  · exact (hsdo _).trans (hact _)
  · exact hsdo _

theorem segmentsAgree_reset : SegmentsAgree State.reset := fun n => by
  rw [show State.reset.segs[n] = SegCtl.reset from Vector.getElem_replicate _]
  exact SegCtl.agrees_reset

theorem nonceLive_reset : NonceLive State.reset := by decide

theorem longOperationsAgree_reset : LongOperationsAgree State.reset :=
  ⟨by decide, nofun, Nat.zero_le _, fun _ => rfl, nofun, fun _ => nofun, nofun⟩

theorem enterReset_sound (s : State) (cause : Phase) (sdo : List Byte) : Sound s (s.enterReset cause sdo) :=
  ⟨⟨rfl, fun _ => nonceLive_reset, fun _ => segmentsAgree_reset⟩, fun _ => rfl, fun _ => longOperationsAgree_reset⟩

theorem requestOf_taken (input : List Byte) : (requestOf input).taken = false := rfl

/-- A request that joins the queue, untaken, takes a credit. -/
theorem submit_sound {s : State} {r : Request} (hr : r.taken = false) (hc : s.port.credits ≠ 0) :
    Sound s (s.withPort { s.port with requests := s.port.requests ++ [r], credits := s.port.credits - 1 }) := by
  refine ⟨.still rfl rfl rfl, fun hs => ?_, fun hs => ?_⟩
  · simp only [CreditsHold, State.withPort_port, List.length_append, List.length_singleton] at hs ⊢
    omega
  · obtain ⟨hengine, hhead, hall, htail⟩ := longOperationsAgree_iff.mp hs
    refine longOperationsAgree_iff.mpr ⟨hengine, fun h => ?_, fun h => ?_, ?_⟩
    · obtain ⟨q, hq, htaken⟩ := hhead h
      exact ⟨q, by simp [List.head?_append, Option.mem_def.mp hq], htaken⟩
    · intro q hq
      rcases List.mem_append.mp hq with hq | hq
      · exact hall h q hq
      · rw [List.mem_singleton.mp hq]; exact hr
    · intro q hq
      cases hreq : s.port.requests with
      | nil => simp [hreq] at hq
      | cons p ps =>
        simp only [State.withPort_port, hreq, List.cons_append, List.tail_cons, List.mem_append,
          List.mem_singleton] at hq
        rcases hq with hq | rfl
        · exact htail q (by rwa [hreq])
        · exact hr

theorem judgeFrame_sound (s : State) (input : List Byte) : Sound s (s.judgeFrame input) := by
  unfold State.judgeFrame
  split
  · exact .refl s
  split
  · exact (raise_calm s _).sound
  split
  · exact (raise_calm s _).sound
  · next hc => exact submit_sound (requestOf_taken input) hc

/-- The oldest response leaves its queue and returns its credit. -/
theorem removeResponse_sound (s : State) : Sound s (s.withPort s.port.removeResponse) := by
  unfold Port.removeResponse
  split
  · exact .refl s
  · next r rest hr =>
    refine ⟨.still rfl rfl rfl, fun hs => ?_, id⟩
    rw [CreditsHold, hr, List.length_cons] at hs
    simp only [CreditsHold, State.withPort_port]
    omega

/-! ### Every command -/

/-- A frame taken on a segment is performed while the segment holds no notice. -/
theorem onFrame_sound {s : State} {n : SegNo} {run : Address → FieldMessage → State → Option State}
    (hrun : ∀ source m u t, u.segs[n].notices = [] → run source m u = some t → Calm u t) :
    Sound s (s.onFrame n run) := by
  rcases onFrame_cases s n run with ⟨f, t, hgranted, hf, h⟩ | h
  · rw [h]
    obtain ⟨_, _, hnotices, _⟩ := granted_frame hgranted
    have htaken : Calm s (s.takeFrame n) :=
      (pointTo_calm s _).trans (withSeg_calm _ n _ fun h => SegCtl.takeFrame_agrees (c := s.segs[n]) h)
    refine (htaken.trans (hrun _ _ _ _ ?_ hf)).sound
    rw [State.takeFrame, withSeg_getElem, if_pos rfl]
    exact hnotices
  · rw [h]; exact .refl s

/-- A segment's own event. -/
theorem segEvent_sound {s : State} {n : SegNo} {c : SegCtl} (h : s.segs[n].agrees → c.agrees) :
    Sound s (s.withSeg n c) := (withSeg_calm s n c h).sound

/-- Every command answers a next state, soundly. -/
theorem exec_sound (c : Instr) (s : State) : ∃ t, exec c s = .next t ∧ Sound s t := by
  have hnext {u : State} (h : Sound s u) :
      ∃ t, (Host.Outcome.next u : Host.Outcome State Fault Refusal) = .next t ∧ Sound s t := ⟨u, rfl, h⟩
  cases c with
  | resetPin => exact hnext (enterReset_sound ..)
  | powerUp => exact hnext (enterReset_sound ..)
  | resetRecoveryDone => exact hnext (.still rfl rfl rfl rfl)
  | reset extra => exact hnext (transaction_sound fun u => enterReset_sound ..)
  | submit input => exact hnext (transaction_sound fun u => judgeFrame_sound u input)
  | fetchNext clocked =>
    refine hnext (transaction_sound fun u => ?_)
    split
    · exact removeResponse_sound u
    · exact .refl u
  | fetchAgain clocked => exact hnext (transaction_sound .refl)
  | status clocked => exact hnext (transaction_sound .refl)
  | notify input =>
    refine hnext (transaction_sound fun u => ?_)
    split
    · exact .refl u
    · exact Sound.still rfl rfl rfl rfl
  | acknowledge input =>
    refine hnext (transaction_sound fun u => ?_)
    split
    · exact .refl u
    · exact Sound.still rfl rfl rfl rfl
  | unknownTransaction bytes =>
    refine hnext ?_
    split
    · exact Sound.still rfl rfl rfl rfl
    · exact .refl s
  | badCommand =>
    refine hnext ?_
    split
    · next r hr =>
      split
      · exact .refl s
      · exact (pointTo_calm s .host).serves.sound_answer hr _
    · exact .refl s
  | readRecord => exact hnext (serve_unchanged fun _ _ => rfl)
  | findId => exact hnext (serve_unchanged fun p u => by unfold State.findId; split; rfl; split <;> rfl)
  | findAddress => exact hnext (serve_unchanged fun p u => by unfold State.findAddress; split <;> rfl)
  | bindStatic => exact hnext (serve_calm fun p u => bindStatic_calm ..)
  | addDeny => exact hnext (serve_calm fun p u => addDeny_calm ..)
  | editRecord => exact hnext (serve_calm fun p u => editRecord_calm ..)
  | retireRecord => exact hnext (serve_calm fun p u => retireRecord_calm ..)
  | collectAttention => exact hnext (serve_calm fun p u => collectAttention_calm ..)
  | reserveAddress => exact hnext (serve_calm fun p u => reserveAddress_calm ..)
  | freeReservation => exact hnext (serve_calm fun p u => freeReservation_calm ..)
  | readAddress => exact hnext (serve_unchanged fun _ _ => rfl)
  | readList => exact hnext (serve_unchanged fun p u => readList_reads ..)
  | setModeRun =>
    refine hnext ?_
    split
    · exact .refl s
    · exact serve_sound fun p u => setMode_serves ..
  | setModeHalt =>
    refine hnext ?_
    split
    · exact .refl s
    · exact serve_sound fun p u => setMode_serves ..
  | flushDynamic => exact execFlushDynamic_sound s
  | flushStep => exact execFlushStep_sound s
  | configure => exact hnext (serve_calm fun p u => configure_calm ..)
  | readConfig => exact hnext (serve_unchanged fun _ _ => rfl)
  | writeRule => exact hnext (serve_calm fun p u => writeRule_calm ..)
  | readRule => exact hnext (serve_unchanged fun p u => by unfold State.readRule; split <;> rfl)
  | writeGroup => exact hnext (serve_calm fun p u => writeGroup_calm ..)
  | readGroup => exact hnext (serve_unchanged fun p u => by unfold State.readGroup; split <;> rfl)
  | readClaim => exact hnext (serve_unchanged fun p u => by unfold State.readClaim; split <;> rfl)
  | segmentControl => exact hnext (serve_calm fun p u => segmentControl_calm ..)
  | readSegment => exact hnext (serve_unchanged fun p u => by unfold State.readSegment; split <;> rfl)
  | announce n =>
    refine hnext (onFrame_sound fun source m u t hn ht => ?_)
    cases m <;> cases ht
    exact announceTaken_calm u n source _ _ _ hn
  | accept n =>
    refine hnext (onFrame_sound fun source m u t _ ht => ?_)
    cases m <;> cases ht
    exact acceptTaken_calm ..
  | decline n =>
    refine hnext (onFrame_sound fun source m u t hn ht => ?_)
    cases m <;> cases ht
    exact declineTaken_calm u n source _ _ hn
  | heartbeat n =>
    refine hnext (onFrame_sound fun source m u t _ ht => ?_)
    cases m <;> cases ht
    exact heartbeatTaken_calm ..
  | release n =>
    refine hnext (onFrame_sound fun source m u t _ ht => ?_)
    cases m <;> cases ht
    exact releaseTaken_calm ..
  | resolveId n =>
    refine hnext (onFrame_sound fun source m u t _ ht => ?_)
    split at ht <;> cases ht
    exact resolveTaken_calm ..
  | resolveAddress n =>
    refine hnext (onFrame_sound fun source m u t _ ht => ?_)
    split at ht <;> cases ht
    exact resolveTaken_calm ..
  | resolveGroup n =>
    refine hnext (onFrame_sound fun source m u t _ ht => ?_)
    split at ht <;> cases ht
    exact resolveTaken_calm ..
  | faultNotice n =>
    refine hnext ?_
    split
    · split
      · exact (takeFaultNotice_calm s n).sound
      · exact .refl s
    · exact .refl s
  | transmitNotice n =>
    refine hnext ?_
    split
    · split
      · exact ((takeNotice_calm s n).trans (noteSent_calm _ _)).sound
      · exact .refl s
    · exact .refl s
  | dropNotice n =>
    refine hnext ?_
    split
    · split
      · exact ((takeNotice_calm s n).trans (noteDropped_calm _ _ _)).sound
      · exact .refl s
    · exact .refl s
  | millisecond =>
    refine hnext ?_
    split
    · exact completeMillisecond_sound s
    · exact .refl s
  | offerWindowRunOut k => exact hnext (runOutWindow_calm s k).sound
  | claimExpiry =>
    refine hnext ?_
    split
    · exact ((pointTo_calm s .timer).trans (withdraw_calm _ _)).sound
    · exact .refl s
  | agingTick =>
    refine hnext ?_
    split
    · exact (withAging_calm s _).sound.trans (deliverTick_sound _)
    · exact .refl s
  | holdListStep =>
    refine hnext ?_
    split
    · exact ((pointTo_calm s .timer).trans (holdListStep_calm _)).sound
    · exact .refl s
  | holdEntryExpiry =>
    refine hnext ?_
    split
    · split
      · exact ((pointTo_calm s .timer).trans (holdListStep_calm _)).sound
      · exact .refl s
    · exact .refl s
  | sweepVisit =>
    refine hnext ?_
    split
    · next i hi => exact sweepVisit_sound i (granted_sweepStep hi).1
    · exact .refl s
  | leaseRunOut =>
    refine hnext ?_
    split
    · next i hi =>
      split
      · exact sweepVisit_sound i (granted_sweepStep hi).1
      · exact .refl s
    · exact .refl s
  | staleWindowRunOut =>
    refine hnext ?_
    split
    · next i hi =>
      split
      · exact sweepVisit_sound i (granted_sweepStep hi).1
      · exact .refl s
    · exact .refl s
  | frameStart n => exact hnext (segEvent_sound SegCtl.frameStart_agrees)
  | startGap n => exact hnext (segEvent_sound SegCtl.startGap_agrees)
  | frameOverLength n =>
    refine hnext (segEvent_sound fun h => ?_)
    split
    · next hr => exact SegCtl.overLength_agrees h hr.1
    · exact h
  | frameComplete n line => exact hnext (segEvent_sound fun h => SegCtl.frameComplete_agrees h line)
  | attemptStart n => exact hnext (segEvent_sound SegCtl.attemptStart_agrees)
  | collision n stillActive => exact hnext (segEvent_sound fun h => SegCtl.collision_agrees h n stillActive)
  | backoffExpiry n => exact hnext (segEvent_sound SegCtl.backoffExpiry_agrees)
  | transmitComplete n => exact hnext (segEvent_sound SegCtl.transmitComplete_agrees)
  | lineStuck n =>
    refine hnext ?_
    split
    · exact (enterFault_calm s n).sound
    · exact .refl s
  | dataLineActiveInGap n => exact hnext (segEvent_sound SegCtl.activeInGap_agrees)

/-- Every step is sound, but that it takes the command at the front of the queue. -/
theorem step_sound {s t : State} (h : step s = .next t) : ∃ rest, Sound { s with pending := rest } t := by
  unfold step at h
  split at h
  · cases h; exact ⟨s.pending, refclkPeriod_sound s⟩
  · next c rest _ =>
    obtain ⟨u, hu, hsound⟩ := exec_sound c { s with pending := rest }
    rw [hu] at h
    cases h
    exact ⟨rest, hsound⟩

/-! ### The obligations -/

theorem bucketsHold_reset : BucketsHold State.reset :=
  fun i hi => absurd (congrArg Record.state (reset_records i)) hi

theorem idsDistinct_reset : IdsDistinct State.reset := fun i _ hi => by rw [reset_records] at hi; cases hi

theorem leasesRun_reset : LeasesRun State.reset := leasesRun_iff.mpr fun i => by rw [reset_records]; exact runs_empty

/-- Settles O1: every command is performed with the rest of the queue waiting, and answers a next state. -/
theorem stepRunsFrontCommand : Obligations.StepRunsFrontCommand := by
  intro c rest s
  refine ⟨rfl, ?_⟩
  obtain ⟨t, ht, hsound⟩ := exec_sound c { s with pending := rest }
  exact ⟨t, ht, hsound.pending⟩

/-- Settles O54: every command is sound. -/
theorem stepKeepsCreditsAndModes : Obligations.StepKeepsCreditsAndModes := by
  intro s t h
  obtain ⟨rest, hsound⟩ := step_sound h
  exact ⟨hsound.credits, hsound.nonce, hsound.modes⟩

/-- Settles O56: every command is sound. -/
theorem stepKeepsSegmentsAgreeing : Obligations.StepKeepsSegmentsAgreeing := by
  intro s t h
  obtain ⟨rest, hsound⟩ := step_sound h
  exact hsound.segs

/-- Settles O53: each agreement at the reset values. -/
theorem allAgreementsHoldAtReset : Obligations.AllAgreementsHoldAtReset :=
  ⟨rfl, nonceLive_reset, longOperationsAgree_reset, attentionExact_reset, membersExact_reset, segmentsAgree_reset,
    tablesAgree_reset, bucketsHold_reset, idsDistinct_reset, settingsInBounds_reset, leasesRun_reset,
    expiriesAgree_reset⟩

end Sys2Proof.Machine
end

section
/-! PROOF. What a served request does, the fields of its payload, and the host commands on addresses: O13, O22 and O23. -/

namespace Sys2Proof.Machine

/-! ### Served requests -/

/-- A request of the right LENGTH is performed on its payload and answered. -/
theorem serve_eq_answer {s t : State} {tag code : Byte} {payload : List Byte} {length : Nat} {a : Answer}
    {run : List Byte → State → State × Answer} (h : s.hostTakes tag code payload) (hl : payload.length = length)
    (hrun : run payload (s.pointTo .host) = (t, a)) : s.serve code length run = t.answer ⟨tag, code, payload, false⟩ a := by
  simp only [State.serve, h, hl, hrun, if_true]

/-- A request of another LENGTH is answered with field number 0, and nothing else changes. -/
theorem serve_eq_of_misfit {s : State} {tag code : Byte} {payload : List Byte} {length : Nat}
    {run : List Byte → State → State × Answer} (h : s.hostTakes tag code payload) (hl : payload.length ≠ length) :
    s.serve code length run = s.answered tag code .badParameter [0] := by
  simp only [State.serve, h, hl, if_true, if_false]
  rfl

/-! ### Fields of payloads -/

@[simp] theorem byteAt_zero (b : Byte) (l : List Byte) : byteAt (b :: l) 0 = b := rfl

@[simp] theorem byteAt_succ (b : Byte) (l : List Byte) (k : Nat) : byteAt (b :: l) (k + 1) = byteAt l k := rfl

@[simp] theorem join16_bytes (w : BitVec 16) : join16 (w.extractLsb' 8 8) (w.extractLsb' 0 8) = w := by
  rw [join16, BitVec.extractLsb'_append_extractLsb'_eq_extractLsb' (by rfl)]
  exact BitVec.extractLsb'_eq_self

@[simp] theorem joinId_bytes (id : ModuleId) :
    joinId (id.extractLsb' 56 8) (id.extractLsb' 48 8) (id.extractLsb' 40 8) (id.extractLsb' 32 8)
      (id.extractLsb' 24 8) (id.extractLsb' 16 8) (id.extractLsb' 8 8) (id.extractLsb' 0 8) = id :=
  idAt_idBytes id

/-! ### Misfit requests (R174) -/

/-- The codes of the catalogue, in either of its two lists. -/
theorem mem_catalogue_of_code {code : Byte} (h : code ∈ commandCodes) : ∃ c len, (c, code, len) ∈ hostCatalogue := by
  have hall : ∀ b ∈ commandCodes, b ∈ hostCatalogue.map (·.2.1) := by decide
  obtain ⟨⟨c, _, len⟩, hmem, rfl⟩ := List.mem_map.mp (hall code h)
  exact ⟨c, len, hmem⟩

theorem badCommand_answers {s : State} {tag code : Byte} {payload : List Byte} (h : s.hostTakes tag code payload)
    (hcode : code ∉ commandCodes) : exec .badCommand s = .next (s.answered tag code .badCommand []) := by
  show execBadCommand s = _
  simp only [execBadCommand, h, List.contains_eq_mem, hcode, decide_false]
  rfl

/-- The payload of a granted request stands at the head of the queue. -/
theorem headPayload_eq {s : State} {tag code : Byte} {payload : List Byte} (h : s.hostTakes tag code payload) :
    s.headPayload = payload := by
  obtain ⟨rest, hr, _⟩ := granted_request h
  rw [State.headPayload, hr]

theorem flushDynamic_misfit {s : State} {tag : Byte} {payload : List Byte} (h : s.hostTakes tag 0x31 payload)
    (hl : payload.length ≠ 0) : exec .flushDynamic s = .next (s.answered tag 0x31 .badParameter [0]) := by
  show execFlushDynamic s = _
  simp only [execFlushDynamic, h, flushCode, if_true, ne_eq, hl, not_false_eq_true]
  rfl

/-- A SET_MODE of another LENGTH than 1 names neither of its two arguments. -/
theorem setMode_misfit {s : State} {tag : Byte} {payload : List Byte} (h : s.hostTakes tag 0x30 payload)
    (hl : payload.length ≠ 1) (b : Byte) {run : List Byte → State → State × Answer} :
    (if s.headPayload = [b] then s else s.serve 0x30 1 run) = s.answered tag 0x30 .badParameter [0] := by
  rw [if_neg, serve_eq_of_misfit h hl]
  rw [headPayload_eq h]
  rintro rfl
  exact hl rfl

/-- What R174 says of a row of the catalogue. -/
def AnswersMisfits (s : State) (row : Instr × Byte × Nat) : Prop :=
  ∀ tag payload, s.hostTakes tag row.2.1 payload → payload.length ≠ row.2.2 →
    exec row.1 s = .next (s.answered tag row.2.1 .badParameter [0])

theorem catalogue_answers_misfits (s : State) : ∀ row ∈ hostCatalogue, AnswersMisfits s row := by
  have served {c : Instr} {code : Byte} {len : Nat} {run : List Byte → State → State × Answer}
      (hc : exec c s = .next (s.serve code len run)) : AnswersMisfits s (c, code, len) := fun tag payload h hl => by
    rw [hc, serve_eq_of_misfit h hl]
  simp only [hostCatalogue, List.forall_mem_cons]
  exact ⟨served rfl, served rfl, served rfl, served rfl, served rfl, served rfl, served rfl, served rfl, served rfl,
    served rfl, served rfl, served rfl, fun _ _ h hl => congrArg _ (setMode_misfit h hl 0x02),
    fun _ _ h hl => congrArg _ (setMode_misfit h hl 0x01), fun _ _ h hl => flushDynamic_misfit h hl, served rfl, served rfl,
    served rfl, served rfl, served rfl, served rfl, served rfl, served rfl, served rfl, nofun⟩

/-- Settles O13: a code outside the catalogue, and a wrong LENGTH in each row of it. -/
theorem misfitRequestsAnswered : Obligations.MisfitRequestsAnswered := by
  intro s tag code payload h
  refine ⟨fun hnone => badCommand_answers h fun hcode => ?_, fun c len hmem hl =>
    catalogue_answers_misfits s _ hmem tag payload h hl⟩
  obtain ⟨c, len, hmem⟩ := mem_catalogue_of_code hcode
  exact hnone c len hmem

/-! ### Reservations (R46, R47) -/

theorem not_assignable_of {a : Address} (h : a = 0 ∨ 0xF0 ≤ a) : ¬assignable a = true := by
  rw [assignable_iff]; bv_omega

/-- RESERVE_ADDRESS is performed and answered. -/
theorem reserveAddress_answers {s t : State} {tag a : Byte} {ans : Answer} (h : s.hostTakes tag 0x20 [a])
    (ha : (s.pointTo .host).reserveAddress a = (t, ans)) :
    exec .reserveAddress s = .next (t.answer ⟨tag, 0x20, [a], false⟩ ans) :=
  congrArg Host.Outcome.next (serve_eq_answer h rfl ha)

/-- FREE_RESERVATION is performed and answered. -/
theorem freeReservation_answers {s t : State} {tag a : Byte} {ans : Answer} (h : s.hostTakes tag 0x21 [a])
    (ha : (s.pointTo .host).freeReservation a = (t, ans)) :
    exec .freeReservation s = .next (t.answer ⟨tag, 0x21, [a], false⟩ ans) :=
  congrArg Host.Outcome.next (serve_eq_answer h rfl ha)

/-- A FREE or HELD address is taken into the reserved set. -/
theorem reserveAddress_of_listed {s : State} {a : Address} (h : s.pool.placeOf a = .free ∨ s.pool.placeOf a = .held) :
    s.reserveAddress a = (s.withPool (s.pool.take a .reserved), .bare .ok) := by
  rcases h with h | h <;> simp [State.reserveAddress, h]

theorem reserveAddress_of_record {s : State} {a : Address} {i : RecNo}
    (h : s.pool.placeOf a = .offered i ∨ s.pool.placeOf a = .bound i) :
    s.reserveAddress a = (s, ⟨.addressInUse, [numByte i.val]⟩) := by
  rcases h with h | h <;> simp [State.reserveAddress, h]

/-- An address that is not RESERVED stays where it is. -/
theorem freeReservation_of_not_reserved {s : State} {a : Address} {place : Place} (h : s.pool.placeOf a = place)
    (hi : place ≠ .invalid) (hr : place ≠ .reserved) : s.freeReservation a = (s, ⟨.wrongState, [place.code]⟩) := by
  subst h
  unfold State.freeReservation
  split
  · next h => exact absurd h hi
  · next h => exact absurd h hr
  · rfl

/-- Settles O22: each command by the address state. -/
theorem reservationsMoveAddresses : Obligations.ReservationsMoveAddresses := by
  refine fun s tag a => ⟨fun h => ⟨fun hout => ?outside, fun h0 hF => ?inside⟩,
    fun h => ⟨fun hout => ?outside', fun h0 hF => ?inside'⟩⟩
  case outside =>
    exact reserveAddress_answers (t := s.pointTo .host) (ans := .bare .addressInvalid) h
      (by simp [State.reserveAddress, State.pointTo, placeOf_of_not_assignable s.pool (not_assignable_of hout)])
  case outside' =>
    exact freeReservation_answers (t := s.pointTo .host) (ans := .bare .addressInvalid) h
      (by simp [State.freeReservation, State.pointTo, placeOf_of_not_assignable s.pool (not_assignable_of hout)])
  case inside =>
    have ha := assignable_iff.mpr ⟨h0, hF⟩
    have hp := placeOf_of_assignable s.pool ha
    refine ⟨fun hm => ?_, fun hm => ?_, fun i hm => ?_⟩
    · rw [reserveAddress_answers h (reserveAddress_of_listed (s := s.pointTo .host) (hm.imp hp.trans hp.trans)),
        ← take_eq s.pool .reserved ha]
      rfl
    · exact reserveAddress_answers (t := s.pointTo .host) (ans := .bare .ok) h
        (by simp only [State.reserveAddress, State.pointTo, State.withEngine_pool, hp, hm])
    · exact reserveAddress_answers h (reserveAddress_of_record (s := s.pointTo .host) (hm.imp hp.trans hp.trans))
  case inside' =>
    have hp := placeOf_of_assignable s.pool (assignable_iff.mpr ⟨h0, hF⟩)
    have hother {place : Place} (hm : s.pool.map[a.toFin] = place) (hi : place ≠ .invalid) (hr : place ≠ .reserved) :=
      freeReservation_answers h (freeReservation_of_not_reserved (s := s.pointTo .host) (hp.trans hm) hi hr)
    refine ⟨fun hm => ?_, fun hm => hother hm nofun nofun, fun hm => hother hm nofun nofun,
      fun i hm => hother hm nofun nofun, fun i hm => hother hm nofun nofun⟩
    exact freeReservation_answers (t := (s.pointTo .host).withPool (s.pool.toTail a)) (ans := .bare .ok) h
      (by simp only [State.freeReservation, State.pointTo, State.withEngine_pool, hp, hm])

/-! ### Reading the pool (R49, R50) -/

/-- The position of an entry of a list without repetition. -/
theorem findIdx?_of_nodup {α β : Type} [BEq β] [LawfulBEq β] {l : List α} {key : α → β} (h : (l.map key).Nodup)
    {k : Nat} {x : α} (hk : l[k]? = some x) : l.findIdx? (key · == key x) = some k := by
  rw [List.findIdx?_eq_some_iff_getElem]
  obtain ⟨hlt, hx⟩ := List.getElem?_eq_some_iff.mp hk
  refine ⟨hlt, by rw [hx]; exact beq_self_eq_true _, fun j hj => ?_⟩
  intro heq
  have hne := (List.nodup_iff_injective_getElem.mp h).ne
    (a₁ := ⟨j, by simp; omega⟩) (a₂ := ⟨k, by simpa using hlt⟩) (by simp; omega)
  simp only [List.getElem_map, hx] at hne
  exact hne (eq_of_beq heq)

theorem find?_of_nodup {α β : Type} [BEq β] [LawfulBEq β] {l : List α} {key : α → β} (h : (l.map key).Nodup)
    {k : Nat} {x : α} (hk : l[k]? = some x) : l.find? (key · == key x) = some x := by
  rw [List.find?_eq_getElem?_findIdx, ← hk]
  have := findIdx?_of_nodup h hk
  rw [List.findIdx?_eq_guard_findIdx_lt] at this
  rw [Option.guard_eq_some_iff.mp this |>.1]

/-- READ_ADDRESS answers the address state and the fields of the place. -/
theorem readAddress_answers {s : State} {tag a : Byte} {place : Place} {fields : List Byte}
    (h : s.hostTakes tag 0x22 [a]) (hp : s.pool.placeOf a = place) (hf : s.pool.placeFields a place = fields) :
    exec .readAddress s = .next (s.answered tag 0x22 .ok (place.code :: fields)) := by
  subst hp hf
  exact congrArg Host.Outcome.next (serve_eq_answered
    (a := ⟨.ok, (s.pool.placeOf a).code :: s.pool.placeFields a (s.pool.placeOf a)⟩) h rfl rfl)

/-- READ_LIST answers as its operation answers. -/
theorem readList_answers {s : State} {tag which position : Byte} {ans : Answer} (h : s.hostTakes tag 0x23 [which, position])
    (ha : (s.pointTo .host).readList which position.toNat = (s.pointTo .host, ans)) :
    exec .readList s = .next (s.answered tag 0x23 ans.status ans.payload) :=
  congrArg Host.Outcome.next (serve_eq_answered h rfl ha)

theorem formerBytes_eq (former : Option ModuleId) :
    formerBytes former = (if former.isSome then 0x01 else 0x00) :: idBytes (former.getD 0) := rfl

/-- Settles O23: each place of an address, and each end of the two lists. -/
theorem poolReadsAnswer : Obligations.PoolReadsAnswer := by
  intro s tag hs
  obtain ⟨hfree, hhold, _, hmapFree, hmapHeld, _⟩ := id hs
  refine ⟨fun a h => ?_, fun which position h => ?_⟩
  · have hp := placeOf_eq_map hs a
    refine ⟨fun hm => readAddress_answers h (hp.trans hm) rfl, fun hm => readAddress_answers h (hp.trans hm) rfl,
      fun p hk => ?_, fun p e hk he => ?_, fun i hm => readAddress_answers h (hp.trans hm) rfl,
      fun i hm => readAddress_answers h (hp.trans hm) rfl⟩
    · have hm := (hmapFree a).mpr (List.mem_of_getElem? hk)
      have hpos := findIdx?_of_nodup (key := id) (by simpa using hfree) hk
      refine readAddress_answers (fields := [BitVec.ofNat 8 p] ++ List.replicate 10 0x00) h (hp.trans hm) ?_
      simp only [id_eq] at hpos
      rw [Pool.placeFields, hpos]
      rfl
    · subst he
      have hm := (hmapHeld e.address).mpr (List.mem_map.mpr ⟨e, List.mem_of_getElem? hk, rfl⟩)
      refine readAddress_answers (fields := [BitVec.ofNat 8 p] ++ (if e.former.isSome then 0x01 else 0x00)
        :: idBytes (e.former.getD 0) ++ [e.ticks]) h (hp.trans hm) ?_
      rw [Pool.placeFields, findIdx?_of_nodup (key := HoldEntry.address) hhold hk,
        find?_of_nodup (key := HoldEntry.address) hhold hk]
      rfl
  · refine ⟨fun h0 h1 => ?_, fun hw hlen => ?_, fun a hw hk => ?_, fun hw hlen => ?_, fun e hw hk => ?_⟩
    · exact readList_answers (ans := .badField 1) h (by rw [State.readList, if_neg h0, if_neg h1])
    · subst hw
      refine readList_answers (ans := ⟨.notFound, [numByte s.pool.free.length]⟩) h ?_
      simp [State.readList, State.pointTo, List.getElem?_eq_none hlen]
    · subst hw
      refine readList_answers (ans := ⟨.ok, listEntryBytes s.pool.free.length a none 0⟩) h ?_
      simp [State.readList, State.pointTo, hk]
    · subst hw
      refine readList_answers (ans := ⟨.notFound, [numByte s.pool.hold.length]⟩) h ?_
      simp [State.readList, State.pointTo, List.getElem?_eq_none hlen]
    · subst hw
      refine readList_answers (ans := ⟨.ok, listEntryBytes s.pool.hold.length e.address e.former e.ticks⟩) h ?_
      simp [State.readList, State.pointTo, hk]

end Sys2Proof.Machine
end

section
/-! PROOF. Bucket, placement and lookup (R1, R9, R10), and the host commands that make records, BIND_STATIC and ADD_DENY (R22
to R24): O15 to O18. -/

namespace Sys2Proof.Machine

/-! ### Bucket, placement and lookup -/

theorem bucketOf_val (id : ModuleId) : (bucketOf id).val = ((idBytes id).foldl (· ^^^ ·) 0x00).toNat % 64 := by
  simp only [bucketOf, idBytes, List.foldl_cons, List.foldl_nil]
  rw [BitVec.ofNat_eq_ofNat, BitVec.zero_xor, BitVec.val_toFin, BitVec.toNat_setWidth]

/-- The first element of an ascending list with a property is the least one with it. -/
theorem find?_eq_some_iff_least {n : Nat} {l : List (Fin n)} (hl : l.Pairwise (· < ·)) {p : Fin n → Bool} {i : Fin n} :
    l.find? p = some i ↔ i ∈ l ∧ p i = true ∧ ∀ j ∈ l, j < i → p j = false := by
  induction l with
  | nil => simp
  | cons x l ih =>
    obtain ⟨hx, hl⟩ := List.pairwise_cons.mp hl
    cases hp : p x with
    | true =>
      rw [List.find?_cons_of_pos hp, Option.some.injEq]
      constructor
      · rintro rfl
        refine ⟨List.mem_cons_self, hp, fun j hj hlt => ?_⟩
        rcases List.mem_cons.mp hj with rfl | hj
        · exact absurd hlt (lt_irrefl _)
        · exact absurd hlt (lt_asymm (hx j hj))
      · rintro ⟨hi, _, hleast⟩
        rcases List.mem_cons.mp hi with h | h
        · exact h.symm
        · rw [hleast x List.mem_cons_self (hx i h)] at hp; cases hp
    | false =>
      rw [List.find?_cons_of_neg (by simp [hp]), ih hl]
      constructor
      · rintro ⟨hi, hpi, hleast⟩
        refine ⟨List.mem_cons_of_mem _ hi, hpi, fun j hj hlt => ?_⟩
        rcases List.mem_cons.mp hj with rfl | hj
        · exact hp
        · exact hleast j hj hlt
      · rintro ⟨hi, hpi, hleast⟩
        refine ⟨(List.mem_cons.mp hi).resolve_left ?_, hpi, fun j hj => hleast j (List.mem_cons_of_mem _ hj)⟩
        rintro rfl
        rw [hp] at hpi; cases hpi

theorem waysOf_ascending (b : Fin 64) : (waysOf b).Pairwise (· < ·) := by
  simp [waysOf, recordIndex, Fin.mk_lt_mk]

theorem placementWay_eq_some_iff {s : State} {id : ModuleId} {i : RecNo} :
    s.placementWay id = some i ↔ i.val / 4 = (bucketOf id).val
      ∧ ((s.records[i].state = .empty
            ∧ ∀ j : RecNo, j.val / 4 = (bucketOf id).val → j < i → s.records[j].state ≠ .empty)
        ∨ ((∀ j : RecNo, j.val / 4 = (bucketOf id).val → s.records[j].state ≠ .empty) ∧ s.records[i].state = .retired
          ∧ ∀ j : RecNo, j.val / 4 = (bucketOf id).val → j < i → s.records[j].state ≠ .retired)) := by
  rw [State.placementWay, Option.or_eq_some_iff, find?_eq_some_iff_least (waysOf_ascending _),
    find?_eq_some_iff_least (waysOf_ascending _), List.find?_eq_none]
  simp only [mem_waysOf, beq_iff_eq, beq_eq_false_iff_ne, ne_eq]
  constructor
  · rintro (⟨hi, he, hleast⟩ | ⟨hnone, hi, hr, hleast⟩)
    · exact ⟨hi, .inl ⟨he, hleast⟩⟩
    · exact ⟨hi, .inr ⟨hnone, hr, hleast⟩⟩
  · rintro ⟨hi, ⟨he, hleast⟩ | ⟨hnone, hr, hleast⟩⟩
    · exact .inl ⟨hi, he, hleast⟩
    · exact .inr ⟨hnone, hi, hr, hleast⟩

theorem placementWay_eq_none_iff {s : State} {id : ModuleId} :
    s.placementWay id = none ↔ ∀ j : RecNo, j.val / 4 = (bucketOf id).val →
      s.records[j].state ≠ .empty ∧ s.records[j].state ≠ .retired := by
  rw [State.placementWay, Option.or_eq_none_iff, List.find?_eq_none, List.find?_eq_none]
  simp only [mem_waysOf, beq_iff_eq]
  exact ⟨fun h j hj => ⟨h.1 j hj, h.2 j hj⟩, fun h => ⟨fun j hj => (h j hj).1, fun j hj => (h j hj).2⟩⟩

theorem findable_iff {r : Record} : r.findable = true ↔
    r.state = .pending ∨ r.state = .dormant ∨ r.state = .active ∨ r.state = .stale := by
  cases h : r.state <;> simp [Record.findable, h]

/-- Settles O15: the first way of a kind is the lowest, and a findable record lies where lookup searches. -/
theorem lookupFindsTheRecord : Obligations.LookupFindsTheRecord := by
  refine ⟨bucketOf_val, fun s id => ⟨fun i => placementWay_eq_some_iff, placementWay_eq_none_iff⟩,
    fun s hb hd id i => ⟨fun h => ?_, fun ⟨hst, hid⟩ => ?_⟩⟩
  · obtain ⟨_, hf, hid⟩ := lookup_eq_some h
    exact ⟨findable_iff.mp hf, hid⟩
  · have hf := findable_iff.mpr hst
    have hway := mem_waysOf.mpr (hb i (not_empty_of_findable hf) id hid)
    cases hl : s.lookup id with
    | none => exact absurd hid (lookup_eq_none hl i hway hf)
    | some j =>
      obtain ⟨_, hfj, hidj⟩ := lookup_eq_some hl
      rw [hd j i hfj hf (hidj.trans hid.symm)]

/-! ### A record takes a new content -/

/-- The records and the counts that follow them. -/
def State.book (s : State) : Vector Record 256 × Nat × Vector Group 16 := (s.records, s.engine.attnCount, s.groups)

/-- A record written in a state with the same records and counts becomes what is written. -/
theorem recordBecomes_of_book {s u t : State} {i : RecNo} {r : Record} (hu : u.book = s.book)
    (ht : t.book = (u.setRecord i r).book) : RecordBecomes s t i r := by
  simp only [State.book, Prod.mk.injEq] at hu ht
  obtain ⟨hurecords, huattn, hugroups⟩ := hu
  obtain ⟨htrecords, htattn, htgroups⟩ := ht
  refine ⟨?_, ?_, fun g => ?_⟩
  · rw [htrecords, State.setRecord_records, hurecords]
  · rw [htattn, setRecord_attnCount, huattn]
    simp only [hurecords]
  · rw [htgroups, setRecord_groups]
    simp only [hurecords, hugroups]

/-! ### BIND_STATIC (R22, R23) -/

/-- BIND_STATIC is performed on the fields of its payload and answered. -/
theorem bindStatic_answers {s t : State} {tag : Byte} {id : ModuleId} {a cls : Byte} {groups : GroupSet} {lease : Byte}
    {ans : Answer} (h : s.hostTakes tag 0x13 (idBytes id ++ [a, cls] ++ bytes16 groups ++ [lease]))
    (hrun : (s.pointTo .host).bindStatic id a cls groups lease = (t, ans)) :
    exec .bindStatic s =
      .next (t.answer ⟨tag, 0x13, idBytes id ++ [a, cls] ++ bytes16 groups ++ [lease], false⟩ ans) := by
  refine congrArg Host.Outcome.next (serve_eq_answer h rfl ?_)
  rw [List.append_assoc, List.append_assoc, idAt_idBytes_append]
  simpa [byteAt, wordAt, idBytes, bytes16] using hrun

section
variable {s : State} {id : ModuleId} {a cls : Byte} {groups : GroupSet} {lease : Byte}

theorem bindStatic_of_invalidId (h : invalidId id = true) :
    s.bindStatic id a cls groups lease = (s, .bare .idInvalid) := by
  rw [State.bindStatic, if_pos h]

theorem bindStatic_of_not_assignable (hid : ¬invalidId id = true) (h : ¬assignable a = true) :
    s.bindStatic id a cls groups lease = (s, .bare .addressInvalid) := by
  rw [State.bindStatic, if_neg hid, if_pos (by simpa using h)]

theorem bindStatic_of_zero_lease (hid : ¬invalidId id = true) (ha : assignable a = true) :
    s.bindStatic id a cls groups 0 = (s, .badField 5) := by
  rw [State.bindStatic, if_neg hid, if_neg (by simp [ha]), if_pos rfl]

/-- The checks of R22 that look at the payload alone have passed. -/
structure BindFieldsOk (id : ModuleId) (a lease : Byte) : Prop where
  id : ¬invalidId id = true
  address : assignable a = true
  lease : lease ≠ 0

theorem bindStatic_of_exists (hok : BindFieldsOk id a lease) {i : RecNo} (hi : s.lookup id = some i)
    (hp : s.records[i].state ≠ .pending) :
    s.bindStatic id a cls groups lease = (s, .record .exists_ i s.records[i]) := by
  simp only [State.bindStatic, hok.id, hok.address, hok.lease, hi]
  rw [if_neg Bool.false_ne_true, if_neg (by decide), if_neg not_false, if_pos hp]

/-- The address is in use by a record that is not the one converted. -/
theorem bindStatic_of_inUse (hok : BindFieldsOk id a lease)
    (hp : ∀ i, s.lookup id = some i → s.records[i].state = .pending) {j : RecNo}
    (hj : s.pool.inUse a (s.lookup id) = some j) :
    s.bindStatic id a cls groups lease = (s, ⟨.addressInUse, [numByte j.val]⟩) := by
  simp only [State.bindStatic, hok.id, hok.address, hok.lease]
  rw [if_neg Bool.false_ne_true, if_neg (by decide), if_neg not_false]
  cases hl : s.lookup id with
  | none => rw [hl] at hj; simp only [hj]
  | some i =>
    rw [hl] at hj
    simp only [hj]
    rw [if_neg (not_not.mpr (hp i hl))]

theorem bindStatic_of_full (hok : BindFieldsOk id a lease) (hl : s.lookup id = none)
    (huse : s.pool.inUse a none = none) (hway : s.placementWay id = none) :
    s.bindStatic id a cls groups lease = (s, .bare .bucketFull) := by
  simp only [State.bindStatic, hok.id, hok.address, hok.lease, hl, huse, hway]
  rw [if_neg Bool.false_ne_true, if_neg (by decide), if_neg not_false]

theorem bindStatic_of_way (hok : BindFieldsOk id a lease) (hl : s.lookup id = none)
    (huse : s.pool.inUse a none = none) {i : RecNo} (hway : s.placementWay id = some i) :
    s.bindStatic id a cls groups lease =
      ((s.placeRecord i (Record.empty.madeStatic id a cls groups lease)).bindAddress a i,
        .record .ok i ((s.placeRecord i (Record.empty.madeStatic id a cls groups lease)).bindAddress a i).records[i]) := by
  simp only [State.bindStatic, hok.id, hok.address, hok.lease, hl, huse, hway]
  rw [if_neg Bool.false_ne_true, if_neg (by decide), if_neg not_false]

theorem bindStatic_of_pending (hok : BindFieldsOk id a lease) {i : RecNo} (hi : s.lookup id = some i)
    (hp : s.records[i].state = .pending) (huse : s.pool.inUse a (some i) = none) :
    s.bindStatic id a cls groups lease =
      (((s.withdrawForConversion s.records[i] (some a)).bindAddress a i).changeRecord i
          (s.records[i].madeStatic id a cls groups lease),
        .record .ok i (((s.withdrawForConversion s.records[i] (some a)).bindAddress a i).changeRecord i
          (s.records[i].madeStatic id a cls groups lease)).records[i]) := by
  simp only [State.bindStatic, hok.id, hok.address, hok.lease, hi, huse]
  rw [if_neg Bool.false_ne_true, if_neg (by decide), if_neg not_false, if_neg (not_not.mpr hp)]

end

theorem inUse_of_bound {p : Pool} {a : Address} (ha : assignable a = true) {j : RecNo} (own : Option RecNo)
    (h : p.map[a.toFin] = .bound j) : p.inUse a own = some j := by
  rw [Pool.inUse, placeOf_of_assignable p ha, h]

theorem inUse_of_offered {p : Pool} {a : Address} (ha : assignable a = true) {j : RecNo} {own : Option RecNo}
    (h : p.map[a.toFin] = .offered j) (hown : own ≠ some j) : p.inUse a own = some j := by
  rw [Pool.inUse, placeOf_of_assignable p ha, h]
  exact if_neg hown

theorem inUse_of_unused {p : Pool} {a : Address} (ha : assignable a = true) {own : Option RecNo}
    (hbound : ∀ j, p.map[a.toFin] ≠ .bound j) (hoffered : ∀ j, p.map[a.toFin] = .offered j → own = some j) :
    p.inUse a own = none := by
  rw [Pool.inUse, placeOf_of_assignable p ha]
  split
  · next j hj => exact if_pos (hoffered j hj)
  · next j hj => exact absurd hj (hbound j)
  · rfl

theorem bindFieldsOk {id : ModuleId} {a lease : Byte} (h0 : id ≠ 0) (hF : id ≠ 0xFFFFFFFFFFFFFFFF) (ha0 : a ≠ 0)
    (haF : a < 0xF0) (hlease : lease ≠ 0) : BindFieldsOk id a lease :=
  ⟨fun h => (invalidId_iff.mp h).elim h0 hF, assignable_iff.mpr ⟨ha0, haF⟩, hlease⟩

/-- Settles O16: each check, the ones before it having passed. -/
theorem bindStaticChecks : Obligations.BindStaticChecks := by
  intro s tag id a cls groups lease h
  refine ⟨fun hinv => bindStatic_answers h (bindStatic_of_invalidId (invalidId_iff.mpr hinv)), fun h0 hF => ?_⟩
  have hid : ¬invalidId id = true := fun hinv => (invalidId_iff.mp hinv).elim h0 hF
  refine ⟨fun hout => bindStatic_answers h (bindStatic_of_not_assignable hid (not_assignable_of hout)), fun ha0 haF => ?_⟩
  have ha := assignable_iff.mpr ⟨ha0, haF⟩
  refine ⟨fun hl => ?_, fun hlease => ?_⟩
  · subst hl
    exact bindStatic_answers h (bindStatic_of_zero_lease hid ha)
  have hok : BindFieldsOk id a lease := ⟨hid, ha, hlease⟩
  refine ⟨fun i hi hp => bindStatic_answers h (bindStatic_of_exists (s := s.pointTo .host) hok hi hp),
    fun hp => ⟨fun j hj => ?_, fun hl hbound hoffered hway => ?_⟩⟩
  · have huse : s.pool.inUse a (s.lookup id) = some j :=
      hj.elim (inUse_of_bound ha _) fun hj => inUse_of_offered ha hj.1 hj.2
    exact bindStatic_answers h (bindStatic_of_inUse (s := s.pointTo .host) hok hp huse)
  · have huse := inUse_of_unused (own := none) ha hbound fun j hj => absurd hj (hoffered j)
    exact bindStatic_answers h (bindStatic_of_full (s := s.pointTo .host) hok hl huse hway)

/-! ### A record placed, and a record converted -/

/-- A placement as a whole: the records, the counts and the flag of an overwritten tombstone. -/
theorem placeRecord_frame (s : State) (i : RecNo) (r : Record) :
    s.placeRecord i r = { s with
      engine := { s.engine with attnCount := (s.setRecord i { r with generation := 1 }).engine.attnCount }
      records := s.records.set i { r with generation := 1 }
      groups := (s.setRecord i { r with generation := 1 }).groups
      port := { s.port with
        flags := if s.records[i].state = .retired then s.port.flags ||| 0x04 else s.port.flags } } := by
  rw [placeRecord_eq]
  split <;> rfl

/-- A PENDING record that changes state takes the next generation. -/
theorem changed_of_pending {old new : Record} (hold : old.state = .pending) (hnew : new.state ≠ .pending) :
    old.changed new = { new with generation := nextGeneration old.generation } := by
  have hdiffer : old.sameTracked new = false := by
    have : (old.state == new.state) = false := by rw [hold]; exact beq_eq_false_iff_ne.mpr (Ne.symm hnew)
    simp [Record.sameTracked, this]
  rw [Record.changed, hdiffer]
  rfl

/-- Settles O17: a placement and a conversion. -/
theorem bindStaticBinds : Obligations.BindStaticBinds := by
  intro s tag id a cls groups lease h h0 hF ha0 haF hlease hbound
  have hok := bindFieldsOk h0 hF ha0 haF hlease
  refine ⟨fun i hl hoffered hway => ?_, fun i k c hi hp hoffered hk hc => ?_⟩
  · have huse := inUse_of_unused (own := none) hok.address hbound fun j hj => absurd hj (hoffered j)
    refine ⟨_, bindStatic_answers h (bindStatic_of_way (s := s.pointTo .host) hok hl huse hway), ?_, ?_, ?_⟩
    · rw [placeRecord_frame]; rfl
    · refine recordBecomes_of_book (u := s.pointTo .host) rfl ?_
      rw [placeRecord_frame]; rfl
    · rw [placeRecord_frame]; rfl
  · have huse := inUse_of_unused (own := some i) hok.address hbound fun j hj => congrArg some (hoffered j hj).symm
    have hconvert := withdrawForConversion_eq (s := s.pointTo .host) (some a) hk hc
    have hrecord : s.records[i].changed (s.records[i].madeStatic id a cls groups lease)
        = ⟨.static, .dormant, some id, some a, none, some cls, groups, some lease, 0, s.records[i].conflicts,
            s.records[i].attention, nextGeneration s.records[i].generation, none, none⟩ :=
      changed_of_pending hp (by simp [Record.madeStatic])
    refine ⟨_, bindStatic_answers h (bindStatic_of_pending (s := s.pointTo .host) hok hi hp huse), ?_, ?_⟩
    · have hpool : (if some a = some c.address then s.pool else s.pool.toHead c.address)
          = if c.address = a then s.pool else s.pool.toHead c.address := by
        simp only [Option.some.injEq, eq_comm]
      rw [← hpool]
      rw [show (s.pointTo .host).records[i] = s.records[i] from rfl, hconvert]
      rfl
    · rw [← hrecord]
      refine recordBecomes_of_book (u := s.pointTo .host) rfl ?_
      rw [show (s.pointTo .host).records[i] = s.records[i] from rfl, hconvert]
      rfl

/-! ### ADD_DENY (R24) -/

/-- ADD_DENY is performed on its ID and answered. -/
theorem addDeny_answers {s t : State} {tag : Byte} {id : ModuleId} {ans : Answer} (h : s.hostTakes tag 0x14 (idBytes id))
    (hrun : (s.pointTo .host).addDeny id = (t, ans)) :
    exec .addDeny s = .next (t.answer ⟨tag, 0x14, idBytes id, false⟩ ans) := by
  refine congrArg Host.Outcome.next (serve_eq_answer h rfl ?_)
  rw [idAt_idBytes]
  exact hrun

section
variable {s : State} {id : ModuleId}

theorem addDeny_of_invalidId (h : invalidId id = true) : s.addDeny id = (s, .bare .idInvalid) := by
  rw [State.addDeny, if_pos h]

theorem addDeny_of_exists (hid : ¬invalidId id = true) {i : RecNo} (hi : s.lookup id = some i)
    (hp : s.records[i].state ≠ .pending) : s.addDeny id = (s, .record .exists_ i s.records[i]) := by
  simp only [State.addDeny, hi]
  rw [if_neg hid, if_pos hp]

theorem addDeny_of_full (hid : ¬invalidId id = true) (hl : s.lookup id = none) (hway : s.placementWay id = none) :
    s.addDeny id = (s, .bare .bucketFull) := by
  simp only [State.addDeny, hl, hway]
  rw [if_neg hid]

theorem addDeny_of_way (hid : ¬invalidId id = true) (hl : s.lookup id = none) {i : RecNo}
    (hway : s.placementWay id = some i) :
    s.addDeny id = (s.placeRecord i (Record.empty.madeDenied id),
      .record .ok i (s.placeRecord i (Record.empty.madeDenied id)).records[i]) := by
  simp only [State.addDeny, hl, hway]
  rw [if_neg hid]

theorem addDeny_of_pending (hid : ¬invalidId id = true) {i : RecNo} (hi : s.lookup id = some i)
    (hp : s.records[i].state = .pending) :
    s.addDeny id = ((s.withdrawForConversion s.records[i] none).changeRecord i (s.records[i].madeDenied id),
      .record .ok i
        ((s.withdrawForConversion s.records[i] none).changeRecord i (s.records[i].madeDenied id)).records[i]) := by
  simp only [State.addDeny, hi]
  rw [if_neg hid, if_neg (not_not.mpr hp)]

end

/-- Settles O18: each case of R24. -/
theorem addDenyBars : Obligations.AddDenyBars := by
  intro s tag id h
  refine ⟨fun hinv => addDeny_answers h (addDeny_of_invalidId (invalidId_iff.mpr hinv)), fun h0 hF => ?_⟩
  have hid : ¬invalidId id = true := fun hinv => (invalidId_iff.mp hinv).elim h0 hF
  refine ⟨fun i hi hp => addDeny_answers h (addDeny_of_exists (s := s.pointTo .host) hid hi hp),
    fun hl hway => addDeny_answers h (addDeny_of_full (s := s.pointTo .host) hid hl hway), fun i hl hway => ?_,
    fun i k c hi hp hk hc => ?_⟩
  · refine ⟨_, addDeny_answers h (addDeny_of_way (s := s.pointTo .host) hid hl hway), ?_, ?_, ?_⟩
    · rw [placeRecord_frame]; rfl
    · refine recordBecomes_of_book (u := s.pointTo .host) rfl ?_
      rw [placeRecord_frame]; rfl
    · rw [placeRecord_frame]; rfl
  · have hconvert := withdrawForConversion_eq (s := s.pointTo .host) none hk hc
    have hrecord : s.records[i].changed (s.records[i].madeDenied id)
        = ⟨.denied, .dormant, some id, none, none, none, 0, none, 0, s.records[i].conflicts,
            s.records[i].attention, nextGeneration s.records[i].generation, none, none⟩ :=
      changed_of_pending hp (by simp [Record.madeDenied])
    refine ⟨_, addDeny_answers h (addDeny_of_pending (s := s.pointTo .host) hid hi hp), ?_, ?_⟩
    · rw [show (s.pointTo .host).records[i] = s.records[i] from rfl, hconvert]
      rfl
    · rw [← hrecord]
      refine recordBecomes_of_book (u := s.pointTo .host) rfl ?_
      rw [show (s.pointTo .host).records[i] = s.records[i] from rfl, hconvert]
      rfl

end Sys2Proof.Machine
end

section
/-! PROOF. The host commands that change and end records, EDIT_RECORD, RETIRE_RECORD and COLLECT_ATTENTION (R25 to R29): O19
to O21. -/

namespace Sys2Proof.Machine

/-! ### EDIT_RECORD (R25, R26) -/

/-- The change items of an items byte and the three values. -/
def EditItems.ofFields (items cls : Byte) (groups : GroupSet) (lease : Byte) : EditItems where
  cls := if items.getLsbD 0 then some cls else none
  groups := if items.getLsbD 1 then some groups else none
  lease := if items.getLsbD 2 then some lease else none
  clearConflict := items.getLsbD 3
  pin := items.getLsbD 4
  unpin := items.getLsbD 5

/-- EDIT_RECORD is performed on the fields of its payload and answered. -/
theorem editRecord_answers {s t : State} {tag : Byte} {i : RecNo} {expected : BitVec 16} {items cls : Byte}
    {groups : GroupSet} {lease : Byte} {ans : Answer}
    (h : s.hostTakes tag 0x15 ([BitVec.ofNat 8 i.val] ++ bytes16 expected ++ [items, cls] ++ bytes16 groups ++ [lease]))
    (hrun : (s.pointTo .host).editRecord i expected (.ofFields items cls groups lease) = (t, ans)) :
    exec .editRecord s = .next (t.answer ⟨tag, 0x15,
      [BitVec.ofNat 8 i.val] ++ bytes16 expected ++ [items, cls] ++ bytes16 groups ++ [lease], false⟩ ans) := by
  refine congrArg Host.Outcome.next (serve_eq_answer h rfl ?_)
  have hindex : indexAt ([BitVec.ofNat 8 i.val] ++ bytes16 expected ++ [items, cls] ++ bytes16 groups ++ [lease]) 0 = i :=
    indexAt_ofNat_cons i _
  rw [hindex]
  simpa [byteAt, wordAt, bytes16, EditItems.ofPayload, EditItems.ofFields] using hrun

theorem mismatch_iff {r : Record} {expected : BitVec 16} :
    r.mismatch expected = true ↔ expected ≠ 0 ∧ expected ≠ r.generation := by
  simp [Record.mismatch]

/-- The first five checks of R25, up to a record that an edit may change. -/
structure EditReaches (r : Record) (expected : BitVec 16) : Prop where
  empty : r.state ≠ .empty
  generation : ¬r.mismatch expected = true
  state : ¬(r.state = .pending ∨ r.state = .retired)

section
variable {s : State} {i : RecNo} {expected : BitVec 16} {e : EditItems}

theorem editRecord_of_empty (h : s.records[i].state = .empty) : s.editRecord i expected e = (s, .bare .wrongState) := by
  rw [State.editRecord, if_pos h]

theorem editRecord_of_mismatch (hempty : s.records[i].state ≠ .empty) (h : s.records[i].mismatch expected = true) :
    s.editRecord i expected e = (s, .record .generationMismatch i s.records[i]) := by
  rw [State.editRecord, if_neg hempty, if_pos h]

theorem editRecord_of_fixed (hempty : s.records[i].state ≠ .empty) (hgen : ¬s.records[i].mismatch expected = true)
    (h : s.records[i].state = .pending ∨ s.records[i].state = .retired) :
    s.editRecord i expected e = (s, .bare .wrongState) := by
  rw [State.editRecord, if_neg hempty, if_neg hgen, if_pos h]

theorem editRecord_of_bar (hr : EditReaches s.records[i] expected)
    (h : s.records[i].kind = .denied ∧ e.beyondClear = true) : s.editRecord i expected e = (s, .bare .wrongKind) := by
  rw [State.editRecord, if_neg hr.empty, if_neg hr.generation, if_neg hr.state, if_pos h]

theorem editRecord_of_bad (hr : EditReaches s.records[i] expected)
    (hbar : ¬(s.records[i].kind = .denied ∧ e.beyondClear = true))
    (h : e.lease = some 0 ∨ (e.pin = true ∧ e.unpin = true)) : s.editRecord i expected e = (s, .badField e.badField) := by
  rw [State.editRecord, if_neg hr.empty, if_neg hr.generation, if_neg hr.state, if_neg hbar, if_pos h]

theorem editRecord_of_kind (hr : EditReaches s.records[i] expected)
    (hbar : ¬(s.records[i].kind = .denied ∧ e.beyondClear = true))
    (hbad : ¬(e.lease = some 0 ∨ (e.pin = true ∧ e.unpin = true)))
    (h : (e.pin = true ∧ s.records[i].kind = .static) ∨ (e.unpin = true ∧ s.records[i].kind = .dynamic)) :
    s.editRecord i expected e = (s, .bare .wrongKind) := by
  rw [State.editRecord, if_neg hr.empty, if_neg hr.generation, if_neg hr.state, if_neg hbar, if_neg hbad, if_pos h]

theorem editRecord_of_dormant (hr : EditReaches s.records[i] expected)
    (hbar : ¬(s.records[i].kind = .denied ∧ e.beyondClear = true))
    (hbad : ¬(e.lease = some 0 ∨ (e.pin = true ∧ e.unpin = true)))
    (hkind : ¬((e.pin = true ∧ s.records[i].kind = .static) ∨ (e.unpin = true ∧ s.records[i].kind = .dynamic)))
    (h : e.unpin = true ∧ s.records[i].state = .dormant) : s.editRecord i expected e = (s, .bare .wrongState) := by
  rw [State.editRecord, if_neg hr.empty, if_neg hr.generation, if_neg hr.state, if_neg hbar, if_neg hbad, if_neg hkind,
    if_pos h]

theorem editRecord_of_ok (hr : EditReaches s.records[i] expected)
    (hbar : ¬(s.records[i].kind = .denied ∧ e.beyondClear = true))
    (hbad : ¬(e.lease = some 0 ∨ (e.pin = true ∧ e.unpin = true)))
    (hkind : ¬((e.pin = true ∧ s.records[i].kind = .static) ∨ (e.unpin = true ∧ s.records[i].kind = .dynamic)))
    (hstate : ¬(e.unpin = true ∧ s.records[i].state = .dormant)) :
    s.editRecord i expected e = (s.changeRecord i (e.applyTo s.records[i]),
      .record .ok i (s.changeRecord i (e.applyTo s.records[i])).records[i]) := by
  rw [State.editRecord, if_neg hr.empty, if_neg hr.generation, if_neg hr.state, if_neg hbar, if_neg hbad, if_neg hkind,
    if_neg hstate]

end

section
variable {items cls : Byte} {groups : GroupSet} {lease : Byte}

theorem beyondClear_ofFields : (EditItems.ofFields items cls groups lease).beyondClear = true ↔
    items.getLsbD 0 = true ∨ items.getLsbD 1 = true ∨ items.getLsbD 2 = true ∨ items.getLsbD 4 = true
      ∨ items.getLsbD 5 = true := by
  have hsome {α : Type} (b : Bool) (x : α) : (if b then some x else none).isSome = b := by cases b <;> rfl
  simp only [EditItems.beyondClear, EditItems.ofFields, hsome, Bool.or_eq_true, or_assoc]

theorem lease_ofFields : (EditItems.ofFields items cls groups lease).lease = some 0 ↔ items.getLsbD 2 = true ∧ lease = 0 := by
  unfold EditItems.ofFields
  cases items.getLsbD 2 <;> simp

/-- The record that an edit gives, field by field. -/
theorem applyTo_ofFields (r : Record) : (EditItems.ofFields items cls groups lease).applyTo r = { r with
    kind := if items.getLsbD 4 = true then .static else if items.getLsbD 5 = true then .dynamic else r.kind
    cls := if items.getLsbD 0 = true then some cls else r.cls
    groups := if items.getLsbD 1 = true then groups else r.groups
    lease := if items.getLsbD 2 = true then some lease else r.lease
    conflicts := if items.getLsbD 3 = true then 0 else r.conflicts } := by
  unfold EditItems.applyTo EditItems.ofFields
  cases items.getLsbD 0 <;> cases items.getLsbD 1 <;> cases items.getLsbD 2 <;> simp

end

/-- An edit changes no field but those that the generation counts. -/
theorem sameTracked_applyTo (e : EditItems) (r : Record) : r.sameTracked (e.applyTo r) = true ↔ e.applyTo r = r := by
  constructor
  · intro h
    simp only [Record.sameTracked, Bool.and_eq_true, beq_iff_eq] at h
    obtain ⟨⟨⟨⟨⟨⟨⟨_, hkind⟩, _⟩, _⟩, hcls⟩, hgroups⟩, hlease⟩, hconflicts⟩ := h
    calc e.applyTo r = { r with
          kind := (e.applyTo r).kind, cls := (e.applyTo r).cls, groups := (e.applyTo r).groups,
          lease := (e.applyTo r).lease, conflicts := (e.applyTo r).conflicts } := rfl
      _ = r := by rw [← hkind, ← hcls, ← hgroups, ← hlease, ← hconflicts]
  · intro h
    rw [h]
    simp [Record.sameTracked]

theorem changed_applyTo (e : EditItems) (r : Record) : r.changed (e.applyTo r) = { e.applyTo r with
    generation := if e.applyTo r = r then r.generation else nextGeneration r.generation } := by
  rw [Record.changed]
  simp only [sameTracked_applyTo]

/-- Settles O19: each check, the ones before it having passed, and the edit. -/
theorem editRecordChecksThenApplies : Obligations.EditRecordChecksThenApplies := by
  refine ⟨fun g => rfl, fun s tag i expected items cls groups lease h => ?_⟩
  have refuses {st : Status} {payload : List Byte}
      (hrun : (s.pointTo .host).editRecord i expected (.ofFields items cls groups lease) = (s.pointTo .host, ⟨st, payload⟩)) :
      exec .editRecord s = .next (s.answered tag 0x15 st payload) := editRecord_answers h hrun
  refine ⟨fun he => refuses (editRecord_of_empty (s := s.pointTo .host) he), fun he => ⟨fun hne hgen => ?_, fun hgen => ?_⟩⟩
  · exact refuses (editRecord_of_mismatch (s := s.pointTo .host) he (mismatch_iff.mpr ⟨hne, hgen⟩))
  have hgen : ¬s.records[i].mismatch expected = true := fun hm => hgen.elim (mismatch_iff.mp hm).1 (mismatch_iff.mp hm).2
  refine ⟨fun hst => refuses (editRecord_of_fixed (s := s.pointTo .host) he hgen hst), fun hp hr => ?_⟩
  have hreach : EditReaches s.records[i] expected := ⟨he, hgen, not_or.mpr ⟨hp, hr⟩⟩
  refine ⟨fun hk hbits => refuses (editRecord_of_bar (s := s.pointTo .host) hreach ⟨hk, beyondClear_ofFields.mpr hbits⟩),
    fun hbar => ?_⟩
  have hbar : ¬(s.records[i].kind = .denied ∧ (EditItems.ofFields items cls groups lease).beyondClear = true) := by
    rintro ⟨hk, hbits⟩
    obtain ⟨h0, h1, h2, h4, h5⟩ := hbar hk
    rcases beyondClear_ofFields.mp hbits with h | h | h | h | h
    exacts [h0 h, h1 h, h2 h, h4 h, h5 h]
  have bad (hbad : (EditItems.ofFields items cls groups lease).lease = some 0
      ∨ (items.getLsbD 4 = true ∧ items.getLsbD 5 = true)) :=
    refuses (editRecord_of_bad (s := s.pointTo .host) hreach hbar hbad)
  refine ⟨fun h2 hl hpins => ?_, fun h4 h5 hl => ?_, fun h2 hl h4 h5 => ?_, fun hl hpins => ?_⟩
  · have hlease := lease_ofFields (cls := cls) (groups := groups).mpr ⟨h2, hl⟩
    have hfield : (EditItems.ofFields items cls groups lease).badField = 6 := by
      rw [EditItems.badField, if_pos hlease]; exact if_neg hpins
    have := bad (.inl hlease)
    rwa [hfield] at this
  · have hfield : (EditItems.ofFields items cls groups lease).badField = 3 := by
      rw [EditItems.badField, if_neg fun h => hl (lease_ofFields.mp h)]
    have := bad (.inr ⟨h4, h5⟩)
    rwa [hfield] at this
  · have hlease := lease_ofFields (cls := cls) (groups := groups).mpr ⟨h2, hl⟩
    have hfield : (EditItems.ofFields items cls groups lease).badField = if Config.editReportsLease then 6 else 3 := by
      rw [EditItems.badField, if_pos hlease]; exact if_pos ⟨h4, h5⟩
    have := bad (.inl hlease)
    rw [hfield] at this
    cases hc : Config.editReportsLease with
    | true => rw [hc] at this; exact .inr this
    | false => rw [hc] at this; exact .inl this
  have hbad : ¬((EditItems.ofFields items cls groups lease).lease = some 0
      ∨ (items.getLsbD 4 = true ∧ items.getLsbD 5 = true)) := not_or.mpr ⟨fun h => hl (lease_ofFields.mp h), hpins⟩
  refine ⟨fun hkind => refuses (editRecord_of_kind (s := s.pointTo .host) hreach hbar hbad hkind), fun hpin hunpin => ?_⟩
  have hkind := not_or.mpr ⟨hpin, hunpin⟩
  refine ⟨fun h5 hd => refuses (editRecord_of_dormant (s := s.pointTo .host) hreach hbar hbad hkind ⟨h5, hd⟩),
    fun hstate => ?_⟩
  refine ⟨_, editRecord_answers h (editRecord_of_ok (s := s.pointTo .host) hreach hbar hbad hkind hstate), rfl, ?_⟩
  rw [← applyTo_ofFields, ← changed_applyTo]
  exact recordBecomes_of_book (u := s.pointTo .host) rfl rfl

/-! ### RETIRE_RECORD (R27, R28) -/

/-- RETIRE_RECORD is performed on the fields of its payload and answered. -/
theorem retireRecord_answers {s t : State} {tag : Byte} {i : RecNo} {expected : BitVec 16} {mode : Byte} {ans : Answer}
    (h : s.hostTakes tag 0x16 ([BitVec.ofNat 8 i.val] ++ bytes16 expected ++ [mode]))
    (hrun : (s.pointTo .host).retireRecord i expected mode = (t, ans)) :
    exec .retireRecord s =
      .next (t.answer ⟨tag, 0x16, [BitVec.ofNat 8 i.val] ++ bytes16 expected ++ [mode], false⟩ ans) := by
  refine congrArg Host.Outcome.next (serve_eq_answer h rfl ?_)
  have hindex : indexAt ([BitVec.ofNat 8 i.val] ++ bytes16 expected ++ [mode]) 0 = i := indexAt_ofNat_cons i _
  rw [hindex]
  simpa [byteAt, wordAt, bytes16] using hrun

section
variable {s : State} {i : RecNo} {expected : BitVec 16} {mode : Byte}

theorem retireRecord_of_empty (h : s.records[i].state = .empty) :
    s.retireRecord i expected mode = (s, .bare .notFound) := by
  rw [State.retireRecord, if_pos h]

theorem retireRecord_of_mismatch (he : s.records[i].state ≠ .empty) (h : s.records[i].mismatch expected = true) :
    s.retireRecord i expected mode = (s, .record .generationMismatch i s.records[i]) := by
  rw [State.retireRecord, if_neg he, if_pos h]

theorem retireRecord_of_badMode (he : s.records[i].state ≠ .empty) (hg : ¬s.records[i].mismatch expected = true)
    (h0 : mode ≠ 0x00) (h1 : mode ≠ 0x01) : s.retireRecord i expected mode = (s, .badField 3) := by
  rw [State.retireRecord, if_neg he, if_neg hg, if_neg h0, if_neg h1]

theorem retireRecord_of_ok (he : s.records[i].state ≠ .empty) (hg : ¬s.records[i].mismatch expected = true)
    (h : mode = 0x00 ∨ mode = 0x01) :
    s.retireRecord i expected mode = (s.retire i (decide (mode = 0x00)), .record .ok i s.records[i]) := by
  rw [State.retireRecord, if_neg he, if_neg hg]
  rcases h with rfl | rfl
  · rw [if_pos rfl]; rfl
  · rw [if_neg (by decide), if_pos rfl]; rfl

end

/-- The state in which a record that the host retires is made EMPTY: its claim withdrawn, or its module told and its
address released. -/
def State.beforeRetirement (s : State) (i : RecNo) (hold : Bool) : State :=
  match s.records[i].state with
  | .pending => s.withdrawForConversion s.records[i] none
  | .active | .stale =>
    (s.placeForRecord s.records[i] (.revoke (s.records[i].id.getD 0) (s.records[i].address.getD 0))).releaseByMode
      s.records[i] hold
  | .dormant => if s.records[i].kind = .static then s.releaseByMode s.records[i] hold else s
  | .retired | .empty => s

theorem retire_eq {s : State} {i : RecNo} (hold : Bool) (he : s.records[i].state ≠ .empty) :
    s.retire i hold = (s.beforeRetirement i hold).emptyRecord i := by
  unfold State.retire State.beforeRetirement
  split
  case h_6 h => exact absurd h he
  all_goals rename_i h; simp only [h]

theorem placeForRecord_frame (s : State) (r : Record) (m : Message) :
    s.placeForRecord r m = { s with segs := (s.placeForRecord r m).segs } := by
  unfold State.placeForRecord
  split <;> rfl

theorem releaseByMode_frame (s : State) (r : Record) (hold : Bool) :
    s.releaseByMode r hold = s.withPool (s.releaseByMode r hold).pool := by
  unfold State.releaseByMode State.holdAddressOf State.freeAddressOf
  split <;> split <;> rfl

theorem withdrawForConversion_frame (s : State) (r : Record) (keep : Option Address) :
    s.withdrawForConversion r keep = { s with
      slots := (s.withdrawForConversion r keep).slots, due := (s.withdrawForConversion r keep).due
      segs := (s.withdrawForConversion r keep).segs, pool := (s.withdrawForConversion r keep).pool } := by
  unfold State.withdrawForConversion
  split
  · rfl
  split
  · rfl
  · simp only
    split <;> rfl

/-- A retirement reaches the claim slots, the due expiries, the segments and the pool alone, before the record is EMPTY. -/
theorem beforeRetirement_frame (s : State) (i : RecNo) (hold : Bool) :
    s.beforeRetirement i hold = { s with
      slots := (s.beforeRetirement i hold).slots, due := (s.beforeRetirement i hold).due
      segs := (s.beforeRetirement i hold).segs, pool := (s.beforeRetirement i hold).pool } := by
  unfold State.beforeRetirement
  split
  · exact withdrawForConversion_frame s _ _
  · rw [releaseByMode_frame, placeForRecord_frame]; rfl
  · rw [releaseByMode_frame, placeForRecord_frame]; rfl
  · split
    · rw [releaseByMode_frame]; rfl
    · rfl
  · rfl
  · rfl

theorem beforeRetirement_of_not_pending {s : State} {i : RecNo} (hold : Bool) (h : s.records[i].state ≠ .pending) :
    (s.beforeRetirement i hold).slots = s.slots ∧ (s.beforeRetirement i hold).due = s.due := by
  unfold State.beforeRetirement
  split
  · next hp => exact absurd hp h
  · rw [releaseByMode_frame, placeForRecord_frame]; exact ⟨rfl, rfl⟩
  · rw [releaseByMode_frame, placeForRecord_frame]; exact ⟨rfl, rfl⟩
  · split
    · rw [releaseByMode_frame]; exact ⟨rfl, rfl⟩
    · exact ⟨rfl, rfl⟩
  · exact ⟨rfl, rfl⟩
  · exact ⟨rfl, rfl⟩

/-- Where the address of a record goes by the mode. -/
theorem releaseByMode_eq {r : Record} {a : Address} (s : State) (mode : Byte) (ha : r.address = some a) :
    s.releaseByMode r (decide (mode = 0x00)) = s.withPool
      (if mode = 0x00 then s.pool.toHold s.config.holdPeriod a r.id else s.pool.toTail a) := by
  unfold State.releaseByMode State.holdAddressOf State.freeAddressOf
  by_cases hm : mode = 0x00
  · rw [if_pos (decide_eq_true hm), if_pos hm, ha]
  · rw [if_neg (by simpa using hm), if_neg hm, ha]

theorem beforeRetirement_of_live {s : State} {i : RecNo} (hold : Bool)
    (h : s.records[i].state = .active ∨ s.records[i].state = .stale) :
    s.beforeRetirement i hold =
      (s.placeForRecord s.records[i] (.revoke (s.records[i].id.getD 0) (s.records[i].address.getD 0))).releaseByMode
        s.records[i] hold := by
  unfold State.beforeRetirement
  rcases h with h | h <;> simp only [h]

theorem beforeRetirement_of_dormant {s : State} {i : RecNo} (hold : Bool) (h : s.records[i].state = .dormant) :
    s.beforeRetirement i hold = if s.records[i].kind = .static then s.releaseByMode s.records[i] hold else s := by
  unfold State.beforeRetirement
  simp only [h]

theorem placeForRecord_eq {s : State} {r : Record} {n : SegNo} {a : Address} (m : Message) (hn : r.segment = some n)
    (ha : r.address = some a) : s.placeForRecord r m = s.place n a m := by
  rw [State.placeForRecord, hn, ha]
  rfl

/-- Settles O20: the checks, and what a retirement does by the record's state. -/
theorem retireRecordEnds : Obligations.RetireRecordEnds := by
  intro s tag i expected mode h
  have refuses {st : Status} {payload : List Byte}
      (hrun : (s.pointTo .host).retireRecord i expected mode = (s.pointTo .host, ⟨st, payload⟩)) :
      exec .retireRecord s = .next (s.answered tag 0x16 st payload) := retireRecord_answers h hrun
  have passes (hg : expected = 0 ∨ expected = s.records[i].generation) : ¬s.records[i].mismatch expected = true :=
    fun hm => hg.elim (mismatch_iff.mp hm).1 (mismatch_iff.mp hm).2
  refine ⟨fun he => refuses (retireRecord_of_empty (s := s.pointTo .host) he),
    fun he hne hg => refuses (retireRecord_of_mismatch (s := s.pointTo .host) he (mismatch_iff.mpr ⟨hne, hg⟩)),
    fun he hg h0 h1 => refuses (retireRecord_of_badMode (s := s.pointTo .host) he (passes hg) h0 h1),
    fun he hg hmode => ?_⟩
  have hrun := retireRecord_of_ok (s := s.pointTo .host) he (passes hg) hmode
  rw [retire_eq (s := s.pointTo .host) _ he] at hrun
  have hframe := beforeRetirement_frame (s.pointTo .host) i (decide (mode = 0x00))
  refine ⟨_, retireRecord_answers h hrun, ?_, ?_, fun k c hp hk hc => ?_, fun hp => ?_, fun id a n hl hid ha hn => ?_,
    fun a hd hk ha => ?_, fun hother => ?_⟩
  · rw [hframe]; rfl
  · refine recordBecomes_of_book (u := (s.pointTo .host).beforeRetirement i (decide (mode = 0x00))) ?_ rfl
    rw [hframe]; rfl
  · have hwithdrawn := withdrawForConversion_eq (s := s.pointTo .host) none hk hc
    have hbefore : (s.pointTo .host).beforeRetirement i (decide (mode = 0x00))
        = (s.pointTo .host).withdrawForConversion s.records[i] none := by
      unfold State.beforeRetirement
      rw [show (s.pointTo .host).records[i] = s.records[i] from rfl, hp]
    rw [hbefore, hwithdrawn]
    exact ⟨rfl, rfl, rfl, rfl⟩
  · exact beforeRetirement_of_not_pending (s := s.pointTo .host) _ hp
  · rw [beforeRetirement_of_live (s := s.pointTo .host) _ hl,
      show (s.pointTo .host).records[i] = s.records[i] from rfl, placeForRecord_eq _ hn ha, releaseByMode_eq _ _ ha, hid,
      ha]
    exact ⟨rfl, rfl⟩
  · rw [beforeRetirement_of_dormant (s := s.pointTo .host) _ hd, show (s.pointTo .host).records[i] = s.records[i] from rfl,
      if_pos hk, releaseByMode_eq _ _ ha]
    exact ⟨rfl, rfl⟩
  · have hbefore : (s.pointTo .host).beforeRetirement i (decide (mode = 0x00)) = s.pointTo .host := by
      rcases hother with ⟨hd, hk⟩ | hr
      · exact (beforeRetirement_of_dormant (s := s.pointTo .host) _ hd).trans (if_neg hk)
      · unfold State.beforeRetirement
        rw [show (s.pointTo .host).records[i] = s.records[i] from rfl, hr]
    rw [hbefore]
    exact ⟨rfl, rfl⟩

/-! ### COLLECT_ATTENTION (R29) -/

/-- COLLECT_ATTENTION is performed from its start index and answered. -/
theorem collectAttention_answers {s t : State} {tag : Byte} {start : RecNo} {ans : Answer}
    (h : s.hostTakes tag 0x17 [BitVec.ofNat 8 start.val]) (hrun : (s.pointTo .host).collectAttention start = (t, ans)) :
    exec .collectAttention s = .next (t.answer ⟨tag, 0x17, [BitVec.ofNat 8 start.val], false⟩ ans) := by
  refine congrArg Host.Outcome.next (serve_eq_answer h rfl ?_)
  rw [indexAt_ofNat_cons]
  exact hrun

/-- The records are searched in the order of their distance from the start, round the table. -/
theorem scanFrom_eq_map (start : RecNo) : scanFrom start = (List.finRange 256).map (start + ·) := by
  rw [scanFrom]
  refine List.ext_getElem (by simp) fun k h1 h2 => ?_
  have hk : k < 256 := by simpa using h2
  rw [List.getElem_map, List.getElem_finRange, List.getElem_append]
  split
  · next hlt =>
    rw [List.length_drop, List.length_finRange] at hlt
    rw [List.getElem_drop, List.getElem_finRange]
    apply Fin.ext
    simp only [Fin.val_cast, Fin.val_add]
    omega
  · next hge =>
    rw [List.length_drop, List.length_finRange] at hge
    rw [List.getElem_take, List.getElem_finRange]
    apply Fin.ext
    simp only [List.length_drop, List.length_finRange, Fin.val_cast, Fin.val_add]
    omega

/-- The record nearest to the start, round the table, of those with a property. -/
theorem find?_scanFrom {p : RecNo → Bool} {start i : RecNo} (hi : p i = true)
    (hnear : ∀ j, (j - start).val < (i - start).val → p j = false) : (scanFrom start).find? p = some i := by
  rw [scanFrom_eq_map, List.find?_map, Option.map_eq_some_iff]
  refine ⟨i - start, (find?_eq_some_iff_least (List.pairwise_lt_finRange 256)).mpr
    ⟨List.mem_finRange _, ?_, fun j _ hj => ?_⟩, ?_⟩
  · rw [Function.comp_apply, add_sub_cancel]; exact hi
  · exact hnear _ (by rw [add_sub_cancel_left]; exact hj)
  · exact add_sub_cancel _ _

theorem mem_scanFrom (start i : RecNo) : i ∈ scanFrom start := by
  rw [scanFrom_eq_map]
  exact List.mem_map.mpr ⟨i - start, List.mem_finRange _, add_sub_cancel _ _⟩

/-- Settles O21: no notice, and the first record with one. -/
theorem collectAttentionReportsInOrder : Obligations.CollectAttentionReportsInOrder := by
  intro s tag start h
  refine ⟨fun hnone => ?_, fun i hi hnear => ?_⟩
  · have hfind : (scanFrom start).find? (fun i => s.records[i].attention != 0) = none :=
      List.find?_eq_none.mpr fun j _ => by rw [hnone j]; decide
    refine collectAttention_answers (t := s.pointTo .host) (ans := .bare .notFound) h ?_
    simp only [State.collectAttention, State.pointTo, State.withEngine_records, hfind]
  · have hfind : (scanFrom start).find? (fun i => s.records[i].attention != 0) = some i :=
      find?_scanFrom (bne_iff_ne.mpr hi) fun j hj => by rw [hnear j hj]; decide
    have hrun : (s.pointTo .host).collectAttention start = ((s.pointTo .host).setRecord i
        (if s.records[i].state = .retired then Record.empty else { s.records[i] with attention := 0 }),
        .record .ok i s.records[i]) := by
      simp only [State.collectAttention, State.pointTo, State.withEngine_records, hfind]
      rw [apply_ite ((s.withEngine { s.engine with pointer := .host }).setRecord i)]
      rfl
    exact ⟨_, collectAttention_answers h hrun, rfl, recordBecomes_of_book (u := s.pointTo .host) rfl rfl⟩

end Sys2Proof.Machine
end

section
/-! PROOF. Withdrawal of claims (R33, R92, R110, R162), placement and the taking of frames (R96, R156, R157): O31 and O33. -/

namespace Sys2Proof.Machine

/-! ### What a withdrawal can reach -/

/-- t differs from s in the tables, the segments and the attention count at most. -/
def WithdrawnFrom (s t : State) : Prop :=
  t = { s with
    engine := { s.engine with attnCount := t.engine.attnCount }
    records := t.records, groups := t.groups, pool := t.pool, slots := t.slots, due := t.due, segs := t.segs }

theorem WithdrawnFrom.refl (s : State) : WithdrawnFrom s s := rfl

theorem WithdrawnFrom.trans {s t u : State} (h : WithdrawnFrom s t) (h' : WithdrawnFrom t u) : WithdrawnFrom s u := by
  unfold WithdrawnFrom at *
  rw [h']
  rw [h]

theorem withdraw_frame (s : State) (k : SlotNo) : WithdrawnFrom s (s.withdraw k) := by
  unfold State.withdraw
  split <;> rfl

theorem withdrawWhere_frame (s : State) (p : Claim → Bool) : WithdrawnFrom s (s.withdrawWhere p) := by
  unfold State.withdrawWhere
  generalize slotsDescending = ks
  induction ks generalizing s with
  | nil => exact .refl s
  | cons k ks ih =>
    rw [List.foldl_cons]
    split
    · exact (withdraw_frame s k).trans (ih _)
    · exact ih s

theorem withdrawWhere_port (s : State) (p : Claim → Bool) : (s.withdrawWhere p).port = s.port := by
  rw [withdrawWhere_frame s p]

/-! ### Removal of unsent OFFERs -/

/-- The entries left of a transmit queue when the unstarted OFFERs of some claims are removed. -/
def keptEntries (cs : List Claim) (tx : List TxEntry) : List TxEntry :=
  tx.filter fun e => !(e.attempts == 0 && cs.any fun c => e.message.offerNonce == some c.nonce)

/-- A controller without the unstarted OFFERs of some claims; one that is down holds none. -/
def SegCtl.without (c : SegCtl) (cs : List Claim) : SegCtl :=
  if c.state = .listening ∨ c.state = .hushed then { c with tx := keptEntries cs c.tx } else c

theorem dropOffers_eq (c : SegCtl) (nonce : BitVec 16) :
    c.dropOffers nonce = if c.state = .listening ∨ c.state = .hushed then
      { c with tx := c.tx.filter fun e => !(e.attempts == 0 && e.message.offerNonce == some nonce) } else c := by
  unfold SegCtl.dropOffers
  simp only [SegCtl.enabled_iff]
  rfl

theorem without_nil (c : SegCtl) : c.without [] = c := by
  unfold SegCtl.without keptEntries
  split
  · simp
  · rfl

theorem dropOffers_without (d : SegCtl) (c : Claim) (cs : List Claim) :
    (d.dropOffers c.nonce).without cs = d.without (c :: cs) := by
  rw [dropOffers_eq]
  unfold SegCtl.without
  by_cases h : d.state = .listening ∨ d.state = .hushed
  · rw [if_pos h, if_pos h, if_pos h]
    congr 1
    unfold keptEntries
    rw [List.filter_filter]
    refine List.filter_congr fun e _ => ?_
    rw [List.any_cons, Bool.and_or_distrib_left, Bool.not_or]
    exact Bool.and_comm _ _
  · rw [if_neg h, if_neg h, if_neg h]

/-! ### Withdrawal of one claim -/

theorem withdraw_becomes {s : State} {k : SlotNo} {c : Claim} (h : s.slots[k] = some c) :
    RecordBecomes s (s.withdraw k) c.record Record.empty := by
  rw [withdraw_eq h]
  exact recordBecomes_of_book (u := ((s.removeOffers c.nonce).freeSlot k).withPool (s.pool.toHead c.address)) rfl rfl

/-! ### Withdrawal of several claims -/

/-- The claims with a property in the slots named, in the order of the slots. -/
def State.claimsIn (s : State) (p : Claim → Bool) (ks : List SlotNo) : List Claim :=
  ks.filterMap fun k => s.slots[k].filter p

theorem claimsIn_cons_of_none {s : State} {p : Claim → Bool} {k : SlotNo} (ks : List SlotNo)
    (h : s.slots[k].filter p = none) : s.claimsIn p (k :: ks) = s.claimsIn p ks := List.filterMap_cons_none h

theorem claimsIn_cons_of_some {s : State} {p : Claim → Bool} {k : SlotNo} {c : Claim} (ks : List SlotNo)
    (h : s.slots[k].filter p = some c) : s.claimsIn p (k :: ks) = c :: s.claimsIn p ks := List.filterMap_cons_some h

theorem claimsIn_congr {s t : State} {p : Claim → Bool} {ks : List SlotNo} (h : ∀ k ∈ ks, t.slots[k] = s.slots[k]) :
    t.claimsIn p ks = s.claimsIn p ks := List.filterMap_congr fun k hk => by rw [h k hk]

theorem mem_claimsIn {s : State} {p : Claim → Bool} {ks : List SlotNo} {c : Claim} :
    c ∈ s.claimsIn p ks ↔ ∃ k ∈ ks, s.slots[k] = some c ∧ p c = true := by
  simp only [State.claimsIn, List.mem_filterMap, Option.filter_eq_some_iff]

/-- The claims with a property in the slots ks have been withdrawn: what has become of the tables and the segments. -/
structure ClaimsWithdrawn (s t : State) (p : Claim → Bool) (ks : List SlotNo) : Prop where
  groups : t.groups = s.groups
  slots : ∀ k : SlotNo, t.slots[k] = if k ∈ ks then s.slots[k].filter (fun c => !p c) else s.slots[k]
  due : t.due = s.due.filter fun k => !(decide (k ∈ ks) && s.slots[k].any p)
  records : ∀ i : RecNo, t.records[i] = if i ∈ (s.claimsIn p ks).map (·.record) then Record.empty else s.records[i]
  free : t.pool.free = ((s.claimsIn p ks).map (·.address)).reverse ++ s.pool.free
  hold : t.pool.hold = s.pool.hold
  map : ∀ a : Address, t.pool.map[a.toFin] = if a ∈ (s.claimsIn p ks).map (·.address) then .free else s.pool.map[a.toFin]
  segs : ∀ n : SegNo, t.segs[n] = s.segs[n].without (s.claimsIn p ks)

/-- The step of the fold that withdraws the claims with a property. -/
def State.withdrawIf (s : State) (p : Claim → Bool) (k : SlotNo) : State :=
  if s.slots[k].any p then s.withdraw k else s

theorem any_eq_true_iff {o : Option Claim} {p : Claim → Bool} : o.any p = true ↔ ∃ c, o = some c ∧ p c = true := by
  cases o <;> simp

theorem filter_not_of_any_false {o : Option Claim} {p : Claim → Bool} (h : o.any p = false) :
    o.filter (fun c => !p c) = o ∧ o.filter p = none := by
  cases o with
  | none => exact ⟨rfl, rfl⟩
  | some c =>
    have hp : p c = false := h
    simp [hp]

/-- No claim to withdraw in a slot: the withdrawals of the other slots are all. -/
theorem ClaimsWithdrawn.skip {s t : State} {p : Claim → Bool} {k : SlotNo} {ks : List SlotNo} (hk : s.slots[k].any p = false)
    (h : ClaimsWithdrawn s t p ks) : ClaimsWithdrawn s t p (k :: ks) := by
  obtain ⟨hkeep, hnone⟩ := filter_not_of_any_false hk
  have hclaims := claimsIn_cons_of_none ks hnone
  refine ⟨h.groups, fun j => ?_, ?_, fun i => ?_, ?_, h.hold, fun a => ?_, fun n => ?_⟩
  · rw [h.slots j]
    by_cases hj : j = k
    · subst hj; rw [hkeep, ite_self, ite_self]
    · simp [hj]
  · rw [h.due]
    refine List.filter_congr fun j _ => ?_
    by_cases hj : j = k
    · subst hj; rw [hk, Bool.and_false, Bool.and_false]
    · simp [hj]
  · rw [h.records i, hclaims]
  · rw [h.free, hclaims]
  · rw [h.map a, hclaims]
  · rw [h.segs n, hclaims]

/-- The record of a claim counts for no group. -/
theorem emptyRecord_groups_of_pending {s : State} (hs : TablesAgree s) {i : RecNo} (h : s.records[i].state = .pending) :
    (s.emptyRecord i).groups = s.groups := by
  obtain ⟨_, _, _, _, hgroups, _⟩ := (complete_iff_of_pending h).mp (hs.2.2.1 i)
  refine Vector.ext fun g hg => ?_
  have hold : s.records[i].countsFor ⟨g, hg⟩ = 0 := by rw [Record.countsFor, hgroups]; simp
  have hnew : Record.empty.countsFor ⟨g, hg⟩ = 0 := by simp [Record.countsFor, Record.empty]
  have := setRecord_groups s i Record.empty ⟨g, hg⟩
  rw [hold, hnew] at this
  exact this

/-- The withdrawal of a slot's claim, and then of those in other slots. -/
theorem ClaimsWithdrawn.cons {s t : State} {p : Claim → Bool} {k : SlotNo} {ks : List SlotNo} {c : Claim}
    (hs : TablesAgree s) (hc : s.slots[k] = some c) (hp : p c = true) (hk : k ∉ ks)
    (h : ClaimsWithdrawn (s.withdraw k) t p ks) : ClaimsWithdrawn s t p (k :: ks) := by
  obtain ⟨_, howns, hassign⟩ := claim_facts hs hc
  have hpending := (hs.2.1.1 k c hc).1
  obtain ⟨_, _, _, hmapFree, hmapHeld, _⟩ := hs.1
  have hplace : s.pool.map[c.address.toFin] ≠ .free ∧ s.pool.map[c.address.toFin] ≠ .held := by
    rcases OwnersAgree.place (recs := fun j => s.records[j]) hs.2.2.2 howns with hm | hm <;> rw [hm] <;> exact ⟨nofun, nofun⟩
  have hslots (j : SlotNo) : (s.withdraw k).slots[j] = if k = j then none else s.slots[j] := by
    refine slots_of_set (c := none) ?_ j
    rw [withdraw_eq hc]; rfl
  have hdue : (s.withdraw k).due = s.due.filter (· != k) := by rw [withdraw_eq hc]; rfl
  have hrecords (i : RecNo) : (s.withdraw k).records[i] = if c.record = i then Record.empty else s.records[i] := by
    rw [withdraw_eq hc, emptyRecord_records]; rfl
  have hgroups : (s.withdraw k).groups = s.groups := by
    rw [withdraw_eq hc]; exact emptyRecord_groups_of_pending hs hpending
  have hpool : (s.withdraw k).pool = { s.pool with
      map := s.pool.map.set c.address.toFin .free, free := c.address :: s.pool.free } := by
    have : (s.withdraw k).pool = s.pool.toHead c.address := by rw [withdraw_eq hc]; rfl
    rw [this, toHead_eq s.pool hassign, free_filter_eq_self fun hm => hplace.1 ((hmapFree _).mpr hm),
      hold_filter_eq_self fun hm => hplace.2 ((hmapHeld _).mpr hm)]
  have hsegs (n : SegNo) : (s.withdraw k).segs[n] = s.segs[n].dropOffers c.nonce := by
    rw [withdraw_eq hc]; exact removeOffers_getElem s c.nonce n
  have hclaims : (s.withdraw k).claimsIn p ks = s.claimsIn p ks := claimsIn_congr fun j hj => by
    rw [hslots, if_neg (ne_of_mem_of_not_mem hj hk).symm]
  have hcons := claimsIn_cons_of_some (s := s) (p := p) (k := k) (c := c) ks (by rw [hc]; simp [hp])
  refine ⟨h.groups.trans hgroups, fun j => ?_, ?_, fun i => ?_, ?_, ?_, fun a => ?_, fun n => ?_⟩
  · rw [h.slots j, hslots]
    by_cases hj : k = j
    · subst hj
      rw [if_neg hk, if_pos rfl, if_pos List.mem_cons_self, hc, Option.filter_some, hp]
      rfl
    · simp [hj, Ne.symm hj]
  · rw [h.due, hdue, List.filter_filter]
    refine List.filter_congr fun j _ => ?_
    by_cases hj : k = j
    · subst hj; simp [hc, hp]
    · rw [hslots, if_neg hj]; simp [Ne.symm hj]
  · rw [h.records i, hrecords, hclaims, hcons, List.map_cons]
    by_cases hi : c.record = i
    · subst hi; simp
    · simp [hi, Ne.symm hi]
  · rw [h.free, hclaims, hcons, hpool]; simp
  · rw [h.hold, hpool]
  · rw [h.map a, hclaims, hcons, hpool, map_set_getElem, List.map_cons]
    by_cases ha : c.address = a
    · subst ha; simp
    · simp [ha, Ne.symm ha]
  · rw [h.segs n, hclaims, hcons, hsegs, dropOffers_without]

theorem withdrawIf_fold {p : Claim → Bool} {ks : List SlotNo} (hks : ks.Nodup) {s : State} (hs : TablesAgree s) :
    ClaimsWithdrawn s (ks.foldl (·.withdrawIf p ·) s) p ks := by
  induction ks generalizing s with
  | nil =>
    exact ⟨rfl, fun k => rfl, by simp, fun i => rfl, rfl, rfl, fun a => rfl, fun n => (without_nil _).symm⟩
  | cons k ks ih =>
    obtain ⟨hk, hks⟩ := List.nodup_cons.mp hks
    rw [List.foldl_cons, State.withdrawIf]
    split
    · next hany =>
      obtain ⟨c, hc, hp⟩ := any_eq_true_iff.mp hany
      exact ClaimsWithdrawn.cons hs hc hp hk (ih hks (tablesAgree_withdraw hs k))
    · next hany => exact ClaimsWithdrawn.skip (Bool.eq_false_iff.mpr hany) (ih hks hs)

theorem withdrawWhere_claimsWithdrawn {s : State} (hs : TablesAgree s) (p : Claim → Bool) :
    ClaimsWithdrawn s (s.withdrawWhere p) p slotsDescending := withdrawIf_fold (by decide) hs

theorem mem_slotsDescending (k : SlotNo) : k ∈ slotsDescending := by revert k; decide

/-- The addresses of the withdrawn claims, in the order in which they stand at the head of the free list. -/
theorem claims_addresses (s : State) (p : Claim → Bool) :
    ((s.claimsIn p slotsDescending).map (·.address)).reverse
      = (List.finRange 8).filterMap fun k => (s.slots[k].filter p).map (·.address) := by
  rw [State.claimsIn, List.map_filterMap, ← List.filterMap_reverse]
  rfl

theorem claims_any (s : State) (p f : Claim → Bool) :
    (s.claimsIn p slotsDescending).any f = (List.finRange 8).any fun k => s.slots[k].any fun c => p c && f c := by
  rw [Bool.eq_iff_iff, List.any_eq_true, List.any_eq_true]
  constructor
  · rintro ⟨c, hc, hf⟩
    obtain ⟨k, _, hk, hp⟩ := mem_claimsIn.mp hc
    exact ⟨k, List.mem_finRange k, any_eq_true_iff.mpr ⟨c, hk, by rw [hp, hf]; rfl⟩⟩
  · rintro ⟨k, _, hk⟩
    obtain ⟨c, hc, hpf⟩ := any_eq_true_iff.mp hk
    rw [Bool.and_eq_true] at hpf
    exact ⟨c, mem_claimsIn.mpr ⟨k, mem_slotsDescending k, hc, hpf.1⟩, hpf.2⟩

/-- Settles O31: one claim by its equation, several by the fold over their slots. -/
theorem withdrawalReturnsClaims : Obligations.WithdrawalReturnsClaims := by
  refine ⟨fun s nonce => ⟨_, rfl, rfl, fun n => ?_⟩, fun s => rfl, fun s n => rfl,
    fun s k c hc => ⟨_, rfl, ?_, withdraw_becomes hc⟩, fun s p hs => ?_⟩
  · rw [removeOffers_getElem, dropOffers_eq]
  · rw [withdraw_eq hc]; rfl
  · have h := withdrawWhere_claimsWithdrawn hs p
    refine ⟨_, rfl, ?_, fun ha => ?_, fun k => ?_, ?_, fun i hi => ?_, fun i hi => ?_, ⟨?_, h.hold, fun a => ?_⟩, fun n => ?_⟩
    · have hframe := withdrawWhere_frame s p
      rw [WithdrawnFrom, h.groups] at hframe
      exact hframe
    · exact (withdrawWhere_leads s p).keeps (fun _ _ h => attentionExact_kept.step attentionExact_reset h) ha
    · rw [h.slots k, if_pos (mem_slotsDescending k)]
    · rw [h.due]
      exact List.filter_congr fun k _ => by rw [decide_eq_true (mem_slotsDescending k), Bool.true_and]
    · obtain ⟨k, c, hc, hp, rfl⟩ := hi
      rw [h.records, if_pos (List.mem_map_of_mem (mem_claimsIn.mpr ⟨k, mem_slotsDescending k, hc, hp⟩))]
    · rw [h.records, if_neg]
      intro hmem
      obtain ⟨c, hc, hrecord⟩ := List.mem_map.mp hmem
      obtain ⟨k, _, hk, hp⟩ := mem_claimsIn.mp hc
      exact hi k c hk hp hrecord
    · rw [h.free, claims_addresses]
    · rw [h.map a, ← claims_addresses]
      simp only [List.mem_reverse]
    · rw [h.segs n, SegCtl.without]
      unfold keptEntries
      simp only [claims_any]

/-! ### Placement and taking -/

/-- Settles O33: a queue with room, a full one and a segment that is down; a frame taken. -/
theorem placementAndTaking : Obligations.PlacementAndTaking := by
  refine ⟨fun s n dest m => ⟨fun hup hlen => ?_, fun hup hlen => ?_, fun hdown => ?_⟩, fun s n f rest hrx hup => ?_⟩
  · have hroom := SegCtl.room_iff.mpr ⟨SegCtl.enabled_iff.mpr hup, hlen⟩
    rw [State.place, if_pos hroom]; rfl
  · have hroom : ¬s.segs[n].room = true := fun h => absurd (SegCtl.room_iff.mp h).2 (Nat.not_lt.mpr hlen)
    rw [State.place, if_neg hroom, SegCtl.refusePlacement, if_pos (SegCtl.enabled_iff.mpr hup)]; rfl
  · have hen : ¬s.segs[n].enabled = true := fun h => hdown (SegCtl.enabled_iff.mp h)
    have hroom : ¬s.segs[n].room = true := fun h => hen (SegCtl.room_iff.mp h).1
    rw [State.place, if_neg hroom, SegCtl.refusePlacement, if_neg hen]
    show { s with segs := s.segs.set n s.segs[n] } = s
    rw [Fin.getElem_fin, Vector.set_getElem_self]
  · have htaken : s.segs[n].takeFrame = { s.segs[n] with rx := rest, state := .listening } := by
      rw [SegCtl.takeFrame, hrx]
      rcases hup with h | h <;> rw [h] <;> rfl
    rw [← htaken]; rfl

end Sys2Proof.Machine
end

section
/-! PROOF. SET_MODE and the flush (R56, R59 to R64, R115, R124): O24 and O25. -/

namespace Sys2Proof.Machine

/-! ### SET_MODE (R60, R61) -/

theorem toList_eq_map_finRange {α : Type} {n : Nat} (v : Vector α n) : v.toList = (List.finRange n).map (v[·]) := by
  refine List.ext_getElem (by simp) fun k h1 h2 => ?_
  simp

/-- The busy slots, counted one by one. -/
theorem busyClaims_eq (s : State) : s.busyClaims = (List.finRange 8).countP fun k : SlotNo => s.slots[k].isSome := by
  rw [State.busyClaims, toList_eq_map_finRange, List.countP_map]
  rfl

/-- SET_MODE, by whichever of its two rows may take the argument, is performed and answered. -/
theorem setMode_answers {s t : State} {tag arg : Byte} {ans : Answer} (h : s.hostTakes tag 0x30 [arg])
    (hrun : (s.pointTo .host).setMode arg = (t, ans)) :
    (arg ≠ 0x02 → exec .setModeRun s = .next (t.answer ⟨tag, 0x30, [arg], false⟩ ans))
      ∧ (arg ≠ 0x01 → exec .setModeHalt s = .next (t.answer ⟨tag, 0x30, [arg], false⟩ ans)) := by
  have hserve : s.serve 0x30 1 (fun p t => t.setMode (byteAt p 0)) = t.answer ⟨tag, 0x30, [arg], false⟩ ans :=
    serve_eq_answer h rfl hrun
  have hhead := headPayload_eq h
  constructor <;> intro harg
  · refine congrArg Host.Outcome.next ?_
    rw [if_neg (by rw [hhead]; simpa using harg), hserve]
  · refine congrArg Host.Outcome.next ?_
    rw [if_neg (by rw [hhead]; simpa using harg), hserve]

theorem setMode_run (s : State) : s.setMode 0x01 = s.setModeRun := if_pos rfl

theorem setMode_halt (s : State) : s.setMode 0x02 = s.setModeHalt := by
  rw [State.setMode, if_neg (by decide), if_pos rfl]

theorem setMode_other (s : State) {arg : Byte} (h1 : arg ≠ 0x01) (h2 : arg ≠ 0x02) : s.setMode arg = (s, .badField 1) := by
  rw [State.setMode, if_neg h1, if_neg h2]

theorem setModeHalt_of_running {s : State} (h : s.engine.mode = .running) :
    s.setModeHalt = (s.withdrawAll.withEngine s.withdrawAll.engine.halt, ⟨.ok, [0x00, numByte s.busyClaims]⟩) := by
  rw [State.setModeHalt, h]
  rfl

theorem pointed_eq (s : State) (q : Requester) : ({ s with engine := { s.engine with pointer := q } } : State) = s.pointTo q :=
  rfl

theorem withdrawAll_port (s : State) : s.withdrawAll.port = s.port := withdrawWhere_port ..

/-- The halted engine answers. -/
theorem answer_halt {s w : State} {tag : Byte} {payload : List Byte} (hport : w.port = s.port) (r : Request) (hr : r.tag = tag)
    (hcode : r.command = 0x30) : (w.withEngine w.engine.halt).answer r ⟨.ok, payload⟩ = { w with
      engine := { w.engine with mode := .halted, sweeping := false, sweepNext := .holdList, owed := 0 }
      port := (s.answered tag 0x30 .ok payload).port } := by
  subst hr
  simp only [State.answer, State.withEngine_port, hport, hcode]
  rfl

/-- Settles O24: each argument in each mode. -/
theorem setModeRunsAndHalts : Obligations.SetModeRunsAndHalts := by
  intro s tag arg h
  refine ⟨?_, ?_, fun h1 h2 c hc => ?_⟩
  · rintro rfl
    have hans {t : State} {ans : Answer} (hrun : (s.pointTo .host).setModeRun = (t, ans)) :=
      (setMode_answers h ((setMode_run _).trans hrun)).1 (by decide)
    refine ⟨fun hm => ?_, fun hm => ?_, fun hm => ?_⟩
    · exact hans (t := (s.pointTo .host).withEngine { s.engine with pointer := .host, mode := .running })
        (ans := ⟨.ok, [0x01, 0x00]⟩) (by rw [State.setModeRun, show (s.pointTo .host).engine.mode = .halted from hm]; rfl)
    · exact hans (t := s.pointTo .host) (ans := ⟨.ok, [0x01, 0x00]⟩)
        (by rw [State.setModeRun, show (s.pointTo .host).engine.mode = .running from hm]; rfl)
    · exact hans (t := s.pointTo .host) (ans := ⟨.ok, [0x02, 0x00]⟩)
        (by rw [State.setModeRun, show (s.pointTo .host).engine.mode = .flushing from hm]; rfl)
  · rintro rfl
    have hans {t : State} {ans : Answer} (hrun : (s.pointTo .host).setModeHalt = (t, ans)) :=
      (setMode_answers h ((setMode_halt _).trans hrun)).2 (by decide)
    refine ⟨fun hm => ?_, fun hm => ?_, fun hm => ?_⟩
    · have hhalt := hans (setModeHalt_of_running (s := s.pointTo .host) hm)
      rw [answer_halt (s := s) (tag := tag) (withdrawAll_port (s.pointTo .host)) ⟨tag, 0x30, [0x02], false⟩ rfl rfl,
        busyClaims_eq] at hhalt
      rw [pointed_eq]
      exact hhalt
    · exact hans (t := s.pointTo .host) (ans := ⟨.ok, [0x00, 0x00]⟩)
        (by rw [State.setModeHalt, show (s.pointTo .host).engine.mode = .halted from hm]; rfl)
    · exact hans (t := s.pointTo .host) (ans := ⟨.ok, [0x02, 0x00]⟩)
        (by rw [State.setModeHalt, show (s.pointTo .host).engine.mode = .flushing from hm]; rfl)
  · have hrun := setMode_answers h (setMode_other (s.pointTo .host) h1 h2)
    rcases List.mem_cons.mp hc with rfl | hc
    · exact hrun.1 h2
    · rw [List.mem_singleton.mp hc]; exact hrun.2 h1

/-! ### The flush (R62 to R64) -/

theorem flushDynamic_of_mode {s : State} {tag : Byte} (h : s.hostTakes tag 0x31 []) :
    exec .flushDynamic s = .next (match s.engine.mode with
      | .halted => (s.pointTo .host).answer ⟨tag, 0x31, [], false⟩ (.bare .wrongMode)
      | .running => (s.pointTo .host).startFlush
      | .flushing => s) := by
  show execFlushDynamic s = _
  rw [execFlushDynamic, h]
  rfl

/-- A flush starts: every claim withdrawn, record 0 next, and its request marked taken at the head. -/
theorem startFlush_eq {s : State} {r : Request} {rest : List Request} (h : s.port.requests = r :: rest) :
    s.startFlush = { s.withdrawAll with
      engine := { s.withdrawAll.engine with mode := .flushing, flushing := true, flushNext := 0, emptied := 0 }
      port := { s.port with requests := { r with taken := true } :: rest } } := by
  unfold State.startFlush
  simp only
  have hport : s.withdrawAll.port = s.port := withdrawWhere_port _ _
  rw [hport, Port.markTaken, h]

/-- What a controller is after a placement. -/
def SegCtl.placed (c : SegCtl) (dest : Address) (m : Message) : SegCtl :=
  if c.room then c.enqueue dest m else c.refusePlacement

theorem place_getElem (s : State) (n k : SegNo) (dest : Address) (m : Message) :
    (s.place n dest m).segs[k] = if n = k then s.segs[k].placed dest m else s.segs[k] := by
  rw [State.place, withSeg_getElem]
  split
  · next h => subst h; rfl
  · rfl

/-- Placements on several segments touch each of them once. -/
theorem foldl_place_getElem {ns : List SegNo} (hns : ns.Nodup) (s : State) (dest : Address) (m : Message) (k : SegNo) :
    (ns.foldl (fun t n => t.place n dest m) s).segs[k] = if k ∈ ns then s.segs[k].placed dest m else s.segs[k] := by
  induction ns generalizing s with
  | nil => rfl
  | cons n ns ih =>
    obtain ⟨hn, hns⟩ := List.nodup_cons.mp hns
    rw [List.foldl_cons, ih hns, place_getElem]
    by_cases hk : n = k
    · subst hk; simp [hn]
    · simp [hk, Ne.symm hk]

theorem foldl_place_frame (ns : List SegNo) (s : State) (dest : Address) (m : Message) :
    ns.foldl (fun t n => t.place n dest m) s
      = { s with segs := (ns.foldl (fun t n => t.place n dest m) s).segs } := by
  induction ns generalizing s with
  | nil => rfl
  | cons n ns ih => rw [List.foldl_cons, ih]; rfl

theorem broadcastReannounce_frame (s : State) :
    s.broadcastReannounce = { s with segs := s.broadcastReannounce.segs } := foldl_place_frame ..

theorem broadcastReannounce_getElem (s : State) (n : SegNo) :
    s.broadcastReannounce.segs[n] = (s.place n 0xFF .reannounce).segs[n] := by
  have hmem : n ∈ ([0, 1, 2, 3] : List SegNo) := by revert n; decide
  rw [place_getElem, if_pos rfl, State.broadcastReannounce, foldl_place_getElem (by decide), if_pos hmem]
  rfl

theorem flushRecord_of_hit {s : State} {i : RecNo} (h : s.records[i].kind = .dynamic ∧ s.records[i].live = true) :
    s.flushRecord i = ((s.freeAddressOf s.records[i]).emptyRecord i).withEngine
      { ((s.freeAddressOf s.records[i]).emptyRecord i).engine with
        emptied := ((s.freeAddressOf s.records[i]).emptyRecord i).engine.emptied + 1 } := if_pos h

theorem freeAddressOf_frame (s : State) (r : Record) : s.freeAddressOf r = s.withPool (s.freeAddressOf r).pool :=
  releaseByMode_frame s r false

/-- What a flush step can reach. -/
theorem flushRecord_frame (s : State) (i : RecNo) : s.flushRecord i = { s with
    engine := { s.engine with
      attnCount := (s.flushRecord i).engine.attnCount, emptied := (s.flushRecord i).engine.emptied }
    records := (s.flushRecord i).records, groups := (s.flushRecord i).groups, pool := (s.flushRecord i).pool } := by
  by_cases h : s.records[i].kind = .dynamic ∧ s.records[i].live = true
  · rw [flushRecord_of_hit h, freeAddressOf_frame]
    rfl
  · rw [State.flushRecord, if_neg h]

/-- The engine as a flush leaves it, with no sweep in flight before it. -/
theorem afterFlush_eq {s : State} (h : s.engine.sweeping = false) : s.afterFlush = s.withEngine { s.engine with
    mode := .running, flushing := false, flushNext := 0, sweeping := decide (0 < s.engine.owed)
    sweepNext := if 0 < s.engine.owed then .holdList else s.engine.sweepNext
    owed := s.engine.owed - 1 } := by
  unfold State.afterFlush State.sweepFromOwed
  by_cases ho : 0 < s.engine.owed
  · rw [decide_eq_true ho, if_pos ho]
    exact if_pos ho
  · have hzero : s.engine.owed - 1 = s.engine.owed := by omega
    rw [decide_eq_false ho, if_neg ho, hzero, ← h]
    exact if_neg ho

theorem endFlush_eq (s : State) : s.endFlush = s.broadcastReannounce.afterFlush.answerFlush := rfl

theorem answerFlush_eq {s : State} {r : Request} {rest : List Request} (h : s.port.requests = r :: rest) :
    s.answerFlush = s.answer r ⟨.ok, bytes16 (BitVec.ofNat 16 s.engine.emptied)⟩ := by
  rw [State.answerFlush, h]

theorem answerFlush_frame (s : State) : s.answerFlush = s.withPort s.answerFlush.port := by
  unfold State.answerFlush
  split <;> rfl

/-- Settles O25: the start in each mode, a step on its record, and what follows it. -/
theorem flushRunsToItsEnd : Obligations.FlushRunsToItsEnd := by
  refine ⟨fun s tag h => ⟨fun hm => ?_, fun hm => ?_⟩, fun s i hi => ?_⟩
  · rw [flushDynamic_of_mode h, hm]; rfl
  · obtain ⟨rest, hrequests, _⟩ := granted_request h
    rw [flushDynamic_of_mode h, hm]
    have htail : s.port.requests.tail = rest := by rw [hrequests]; rfl
    rw [← htail] at hrequests
    rw [pointed_eq]
    exact congrArg Host.Outcome.next (startFlush_eq (s := s.pointTo .host) hrequests)
  · obtain ⟨_, hsweeping, _⟩ := granted_flushStep hi
    have hexec : exec .flushStep s = .next (if i = 255 then ((s.pointTo .timer).flushRecord i).endFlush
        else ((s.pointTo .timer).flushRecord i).withEngine
          { ((s.pointTo .timer).flushRecord i).engine with flushNext := i + 1 }) := by
      show execFlushStep s = _
      rw [execFlushStep, hi]
    have hframe := flushRecord_frame (s.pointTo .timer) i
    refine ⟨(s.pointTo .timer).flushRecord i, _, hexec, hframe, ?_, ?_, fun hlast => if_neg hlast, ?_⟩
    · rintro ⟨hkind, hlive⟩
      rw [flushRecord_of_hit (s := s.pointTo .timer) ⟨hkind, live_iff.mpr hlive⟩, freeAddressOf_frame]
      refine ⟨recordBecomes_of_book (u := (s.pointTo .timer).withPool ((s.pointTo .timer).freeAddressOf
        (s.pointTo .timer).records[i]).pool) rfl rfl, rfl, fun a ha => ?_⟩
      show ((s.pointTo .timer).freeAddressOf s.records[i]).pool = _
      rw [State.freeAddressOf, ha]
      rfl
    · intro hmiss
      exact if_neg fun ⟨hkind, hlive⟩ => hmiss ⟨hkind, live_iff.mp hlive⟩
    · intro hlast
      rw [if_pos hlast, endFlush_eq]
      have hcast := broadcastReannounce_frame ((s.pointTo .timer).flushRecord i)
      have hsegs := broadcastReannounce_getElem ((s.pointTo .timer).flushRecord i)
      generalize (s.pointTo .timer).flushRecord i = u at hframe hcast hsegs
      generalize u.broadcastReannounce = v at hcast hsegs
      have hsweep : u.engine.sweeping = false ∧ u.engine.owed = s.engine.owed ∧ u.engine.sweepNext = s.engine.sweepNext := by
        rw [hframe]; exact ⟨hsweeping, rfl, rfl⟩
      have hplaces : u.segs = s.segs ∧ u.port = s.port := by rw [hframe]; exact ⟨rfl, rfl⟩
      obtain ⟨hsweeping, howed, hnext⟩ := hsweep
      obtain ⟨husegs, huport⟩ := hplaces
      generalize v.segs = g at hcast hsegs
      subst hcast
      rw [afterFlush_eq (s := { u with segs := g }) hsweeping, show ({ u with segs := g } : State).engine = u.engine from rfl,
        howed, hnext, answerFlush_frame]
      refine ⟨rfl, fun n => (hsegs n).trans ?_, fun q rest hrequests => ?_⟩
      · rw [place_getElem, place_getElem, husegs]
      · rw [← huport] at hrequests ⊢
        rw [answerFlush_eq (s := State.withEngine { u with segs := g } _) hrequests]
        simp only [State.withPort_port, State.answer_port, State.withEngine_port]
        rw [hrequests]
        rfl

end Sys2Proof.Machine
end

section
/-! PROOF. CONFIGURE, WRITE_RULE and WRITE_GROUP (R66, R67, R74, R75, R85): O26 and O28. -/

namespace Sys2Proof.Machine

/-! ### Checks in order -/

/-- A value whose fields are checked in order, or the number of the first that fails. -/
def verdict {α : Type} (checks : List (Bool × Byte)) (value : α) : Except Nat α :=
  match checks.find? (fun c => !c.1) with
  | some c => .error c.2.toNat
  | none => .ok value

theorem verdict_nil {α : Type} (value : α) : verdict [] value = .ok value := rfl

theorem verdict_cons {α : Type} (p : Prop) [Decidable p] (k : Byte) (rest : List (Bool × Byte)) (value : α) :
    verdict ((decide p, k) :: rest) value = if p then verdict rest value else .error k.toNat := by
  by_cases h : p
  · rw [if_pos h, decide_eq_true h]; rfl
  · rw [if_neg h, decide_eq_false h]; rfl

theorem verdict_of_failing {α : Type} {checks : List (Bool × Byte)} {c : Bool × Byte} (value : α)
    (h : checks.find? (fun c => !c.1) = some c) : verdict checks value = .error c.2.toNat := by
  rw [verdict, h]

theorem verdict_of_passing {α : Type} {checks : List (Bool × Byte)} (value : α) (h : ∀ c ∈ checks, c.1 = true) :
    verdict checks value = .ok value := by
  have hnone : checks.find? (fun c => !c.1) = none := List.find?_eq_none.mpr fun c hc => by
    rw [h c hc]
    exact Bool.false_ne_true
  rw [verdict, hnone]

/-- The answer that names a field by its byte. -/
theorem badField_toNat (b : Byte) : Answer.badField b.toNat = ⟨.badParameter, [b]⟩ := by
  rw [Answer.badField, numByte, BitVec.ofNat_toNat, BitVec.setWidth_eq]

/-! ### CONFIGURE (R66, R67) -/

theorem assignable_iff_le {a : Address} : assignable a = true ↔ 0x01 ≤ a ∧ a ≤ 0xEF := by
  rw [assignable, Bool.and_eq_true, decide_eq_true_iff, decide_eq_true_iff]
  rfl

theorem validRange_iff {low high : Address} : validRange low high = true ↔ 0x01 ≤ low ∧ low ≤ high ∧ high ≤ 0xEF := by
  rw [validRange, Bool.and_eq_true, Bool.and_eq_true, decide_eq_true_iff, assignable_iff_le, assignable_iff_le]
  constructor
  · rintro ⟨⟨⟨h1, _⟩, _, h2⟩, h3⟩; exact ⟨h1, h3, h2⟩
  · rintro ⟨h1, h3, h2⟩; exact ⟨⟨⟨h1, BitVec.le_trans h3 h2⟩, BitVec.le_trans h1 h3, h2⟩, h3⟩

/-- The checks of CONFIGURE, with the numbers of the parameters. -/
def configureChecks (khz : BitVec 16) (tick lease stale offer hint policy low high : Byte) : List (Bool × Byte) :=
  [(1000 ≤ khz.toNat ∧ khz.toNat ≤ 50000, 1), (tick ≠ 0, 2), (lease ≠ 0, 3), (stale ≠ 0, 4), (offer ≠ 0, 6),
   (hint ≠ 0, 7), (policy = 0x00 ∨ policy = 0x01, 8), (0x01 ≤ low ∧ low ≤ high ∧ high ≤ 0xEF, 9)]

theorem policyOf_eq (b : Byte) :
    policyOf b = if b = 0x00 ∨ b = 0x01 then some (if b = 0x01 then .permit else .deny) else none := by
  unfold policyOf
  by_cases h1 : b = 0x01
  · simp [h1]
  · rw [if_neg h1, if_neg h1]
    simp only [h1, or_false]

/-- The parameters of a CONFIGURE payload are checked in order. -/
theorem paramsOfPayload_eq (khz : BitVec 16) (tick lease stale hold offer hint policy low high : Byte) (groups : GroupSet) :
    Params.ofPayload (bytes16 khz ++ [tick, lease, stale, hold, offer, hint, policy, low, high] ++ bytes16 groups)
      = verdict (configureChecks khz tick lease stale offer hint policy low high)
        ⟨khz, tick, lease, stale, hold, offer, hint, if policy = 0x01 then .permit else .deny, low, high, groups⟩ := by
  have hkhz : wordAt (bytes16 khz ++ [tick, lease, stale, hold, offer, hint, policy, low, high] ++ bytes16 groups) 0 = khz :=
    join16_bytes khz
  have hgroups : wordAt (bytes16 khz ++ [tick, lease, stale, hold, offer, hint, policy, low, high] ++ bytes16 groups) 11
      = groups := join16_bytes groups
  have hbounds : khz.toNat < 1000 ∨ 50000 < khz.toNat ↔ ¬(1000 ≤ khz.toNat ∧ khz.toNat ≤ 50000) := by omega
  unfold Params.ofPayload
  simp only [hkhz, hgroups]
  simp only [bytes16, List.cons_append, List.nil_append, byteAt_zero, byteAt_succ, configureChecks, verdict_cons,
    verdict_nil, validRange_iff, policyOf_eq, hbounds, ne_eq, ite_not]
  by_cases hpolicy : policy = 0x00 ∨ policy = 0x01
  · rw [if_pos hpolicy, if_pos hpolicy]; rfl
  · rw [if_neg hpolicy, if_neg hpolicy]; rfl

/-- Settles O26: the mode, the checks in order, and what is set. -/
theorem configureChecksAndSets : Obligations.ConfigureChecksAndSets := by
  intro s tag khz tick lease stale hold offer hint policy low high groups h
  have hans {t : State} {ans : Answer} (hrun : (s.pointTo .host).configure _ = (t, ans)) :
      exec .configure s = .next (t.answer ⟨tag, 0x32, _, false⟩ ans) :=
    congrArg Host.Outcome.next (serve_eq_answer h (length := 13) (run := fun p t => t.configure p) rfl hrun)
  refine ⟨fun hm => ?_, fun hm => ⟨fun c hc => ?_, fun hall => ?_⟩⟩
  · exact hans (t := s.pointTo .host) (ans := .bare .wrongMode) (if_neg hm)
  · refine hans (t := s.pointTo .host) (ans := ⟨.badParameter, [c.2]⟩) ((if_pos hm).trans ?_)
    rw [paramsOfPayload_eq, verdict_of_failing (checks := configureChecks khz tick lease stale offer hint policy low high) _ hc,
       ← badField_toNat]
  · refine hans (t := (s.pointTo .host).reconfigure ⟨khz, tick, lease, stale, hold, offer, hint,
      if policy = 0x01 then .permit else .deny, low, high, groups⟩) (ans := .bare .ok) ((if_pos hm).trans ?_)
    rw [paramsOfPayload_eq, verdict_of_passing (checks := configureChecks khz tick lease stale offer hint policy low high) _ hall]

/-! ### WRITE_RULE (R74, R75) -/

theorem yesNo_eq (b : Byte) : yesNo b = if b = 0x00 ∨ b = 0x01 then some (decide (b = 0x01)) else none := by
  unfold yesNo
  by_cases h1 : b = 0x01
  · simp [h1]
  · rw [if_neg h1]
    simp only [h1, or_false, decide_false]

theorem actionOf_eq (b : Byte) :
    actionOf b = if b = 0x00 ∨ b = 0x01 then some (if b = 0x00 then .permit else .deny) else none := by
  unfold actionOf
  by_cases h0 : b = 0x00
  · simp [h0]
  · rw [if_neg h0, if_neg h0]
    simp only [h0, false_or]

/-- The bits of a rule's value beyond its leading length are zero exactly when the shift leaves nothing (R73). -/
theorem shiftLeft_eq_zero_iff (value : ModuleId) (n : Nat) :
    value <<< n = 0 ↔ ∀ k : Fin 64, n ≤ k.val → value.getMsbD k.val = false := by
  constructor
  · intro h k hk
    have hbit := congrArg (fun v => BitVec.getMsbD v (k.val - n)) h
    simp only [BitVec.getMsbD_shiftLeft, BitVec.ofNat_eq_ofNat, BitVec.getMsbD_zero] at hbit
    rwa [Nat.sub_add_cancel hk] at hbit
  · intro h
    refine BitVec.eq_of_getMsbD_eq fun k hk => ?_
    rw [BitVec.getMsbD_shiftLeft]
    by_cases hin : k + n < 64
    · rw [h ⟨k + n, hin⟩ (Nat.le_add_left n k)]; simp
    · rw [BitVec.getMsbD_of_ge _ _ (by omega)]; simp

/-- The checks of WRITE_RULE after the slot's, with the numbers of the fields. -/
def ruleChecks (valid action length : Byte) (value : ModuleId) (low high lease : Byte) : List (Bool × Byte) :=
  (decide (valid = 0x00 ∨ valid = 0x01), 2) :: (if valid = 0x00 then [] else
    ([(action = 0x00 ∨ action = 0x01, 3), (length.toNat ≤ 64, 4),
      (∀ k : Fin 64, length.toNat ≤ k.val → value.getMsbD k.val = false, 5), (0x01 ≤ low ∧ low ≤ 0xEF, 9),
      (low ≤ high ∧ high ≤ 0xEF, 10), (lease ≠ 0, 11)] : List (Bool × Byte)))

/-- The rule that a WRITE_RULE gives. -/
def ruleWritten (valid action length : Byte) (value : ModuleId) (segments f cls : Byte) (groups : GroupSet)
    (low high lease : Byte) : Rule :=
  if valid = 0x00 then ⟨false, .permit, 0, 0, 0, none, 0, 0x01, 0xEF, 60⟩
  else ⟨true, if action = 0x00 then .permit else .deny, length, value, segments.setWidth 4,
    if f = 0x00 then none else some cls, groups, low, high, lease⟩

theorem highFails_iff {low high : Byte} {_ : Decidable (high < low)} (hlow : 0x01 ≤ low ∧ low ≤ 0xEF) :
    (!assignable high || decide (high < low)) = true ↔ ¬(low ≤ high ∧ high ≤ 0xEF) := by
  rw [Bool.or_eq_true, Bool.not_eq_true', decide_eq_true_iff, ← Bool.not_eq_true, assignable_iff_le, ← BitVec.not_le]
  constructor
  · rintro (h | h) ⟨h1, h2⟩
    · exact h ⟨BitVec.le_trans hlow.1 h1, h2⟩
    · exact h h1
  · intro h
    by_cases h1 : low ≤ high
    · exact .inl fun hin => h ⟨h1, hin.2⟩
    · exact .inr h1

/-- The fields of a WRITE_RULE payload are checked in order. -/
theorem ruleOfPayload_eq (p : List Byte) : Rule.ofPayload p
    = verdict (ruleChecks (byteAt p 1) (byteAt p 2) (byteAt p 3) (idAt p 4) (byteAt p 17) (byteAt p 18) (byteAt p 19))
      (ruleWritten (byteAt p 1) (byteAt p 2) (byteAt p 3) (idAt p 4) (byteAt p 12) (byteAt p 13) (byteAt p 14)
        (wordAt p 15) (byteAt p 17) (byteAt p 18) (byteAt p 19)) := by
  rw [Rule.ofPayload, yesNo_eq, ruleChecks, verdict_cons]
  by_cases hvalid : byteAt p 1 = 0x00 ∨ byteAt p 1 = 0x01
  · rw [if_pos hvalid, if_pos hvalid]
    by_cases h0 : byteAt p 1 = 0x00
    · rw [ruleWritten, if_pos h0, if_pos h0, h0]; rfl
    · have h1 : byteAt p 1 = 0x01 := hvalid.resolve_left h0
      rw [if_neg h0, ruleWritten, if_neg h0, decide_eq_true h1]
      simp only [verdict_cons, verdict_nil, shiftLeft_eq_zero_iff, ne_eq, ite_not, actionOf_eq]
      by_cases haction : byteAt p 2 = 0x00 ∨ byteAt p 2 = 0x01
      · rw [if_pos haction, if_pos haction]
        by_cases hlow : 0x01 ≤ byteAt p 17 ∧ byteAt p 17 ≤ 0xEF
        · simp only [highFails_iff hlow, Bool.not_eq_true', ← Bool.not_eq_true, assignable_iff_le, ite_not, ← not_le]
          rfl
        · simp only [Bool.not_eq_true', ← Bool.not_eq_true, assignable_iff_le, ite_not, ← not_le, hlow, if_false]
          rfl
      · rw [if_neg haction, if_neg haction]; rfl
  · rw [if_neg hvalid, if_neg hvalid]; rfl

theorem ruleOfPayload_writeRule (slot valid action length : Byte) (value : ModuleId) (segments f cls : Byte)
    (groups : GroupSet) (low high lease : Byte) :
    Rule.ofPayload ([slot, valid, action, length] ++ idBytes value ++ [segments, f, cls] ++ bytes16 groups ++ [low, high, lease])
      = verdict (ruleChecks valid action length value low high lease)
        (ruleWritten valid action length value segments f cls groups low high lease) := by
  have hvalue : idAt ([slot, valid, action, length] ++ idBytes value ++ [segments, f, cls] ++ bytes16 groups
      ++ [low, high, lease]) 4 = value := joinId_bytes value
  have hgroups : wordAt ([slot, valid, action, length] ++ idBytes value ++ [segments, f, cls] ++ bytes16 groups
      ++ [low, high, lease]) 15 = groups := join16_bytes groups
  rw [ruleOfPayload_eq, hvalue, hgroups]
  rfl

theorem boundedAt_of_lt {n : Nat} {b : Byte} (l : List Byte) {k : Fin n} (h : b.toNat = k.val) :
    boundedAt n (b :: l) 0 = some k := by
  rw [boundedAt, byteAt_zero, dif_pos (h ▸ k.isLt)]
  exact congrArg some (Fin.ext h)

theorem boundedAt_of_ge {n : Nat} {b : Byte} (l : List Byte) (h : n ≤ b.toNat) : boundedAt n (b :: l) 0 = none := by
  rw [boundedAt, byteAt_zero, dif_neg (by omega)]

theorem numByte_of_toNat {b : Byte} {k : Nat} (h : b.toNat = k) : numByte k = b := by
  rw [numByte, ← h, BitVec.ofNat_toNat, BitVec.setWidth_eq]

/-- The bytes of a rule carry it; the flag byte of an override is not zero. -/
theorem carriesRule_ruleBytes (k : RuleNo) (r : Rule) : CarriesRule k r (ruleBytes k r) := by
  have haction : r.action.actionCode = if r.action = .permit then 0x00 else 0x01 := by cases r.action <;> rfl
  refine ⟨if Config.overrideFlag (r.clsOverride.getD 0) = 0x00 then 0x01 else Config.overrideFlag (r.clsOverride.getD 0), ?_, ?_⟩
  · split
    · decide
    · next h => exact h
  · rw [ruleBytes, haction]
    cases r.clsOverride <;> rfl

theorem writeRule_of_slot {s : State} {p : List Byte} {k : RuleNo} (hk : boundedAt 16 p 0 = some k) :
    s.writeRule p = match Rule.ofPayload p with
      | .error n => (s, .badField n)
      | .ok r => ({ s with rules := s.rules.set k r }, ⟨.ok, ruleBytes k r⟩) := by
  rw [State.writeRule, hk] <;> rfl

/-- WRITE_RULE gives the verdict of its checks. -/
theorem writeRule_answers {s : State} {tag slot valid action length : Byte} {value : ModuleId} {segments f cls : Byte}
    {groups : GroupSet} {low high lease : Byte}
    (h : s.hostTakes tag 0x40 ([slot, valid, action, length] ++ idBytes value ++ [segments, f, cls] ++ bytes16 groups
      ++ [low, high, lease])) :
    (16 ≤ slot.toNat → exec .writeRule s = .next (s.answered tag 0x40 .badParameter [1]))
      ∧ ∀ k : RuleNo, slot.toNat = k.val → exec .writeRule s = .next
        (match verdict (ruleChecks valid action length value low high lease)
            (ruleWritten valid action length value segments f cls groups low high lease) with
          | .error n => s.answered tag 0x40 .badParameter [numByte n]
          | .ok r => { s.answered tag 0x40 .ok (ruleBytes k r) with rules := s.rules.set k r }) := by
  have hans {t : State} {ans : Answer} (hrun : (s.pointTo .host).writeRule _ = (t, ans)) :
      exec .writeRule s = .next (t.answer ⟨tag, 0x40, _, false⟩ ans) :=
    congrArg Host.Outcome.next (serve_eq_answer h (length := 20) (run := fun p t => t.writeRule p) rfl hrun)
  refine ⟨fun hslot => ?_, fun k hslot => ?_⟩
  · refine hans (t := s.pointTo .host) (ans := .badField 1) ?_
    rw [State.writeRule]
    simp only [List.cons_append, boundedAt_of_ge _ hslot]
  · have hk : boundedAt 16 ([slot, valid, action, length] ++ idBytes value ++ [segments, f, cls] ++ bytes16 groups
        ++ [low, high, lease]) 0 = some k := boundedAt_of_lt _ hslot
    have hwrite := writeRule_of_slot (s := s.pointTo .host) hk
    rw [ruleOfPayload_writeRule] at hwrite
    cases hv : verdict (ruleChecks valid action length value low high lease)
      (ruleWritten valid action length value segments f cls groups low high lease) with
    | error n =>
      rw [hv] at hwrite
      exact hans (t := s.pointTo .host) (ans := .badField n) hwrite
    | ok r =>
      rw [hv] at hwrite
      exact hans (t := { s.pointTo .host with rules := s.rules.set k r }) (ans := ⟨.ok, ruleBytes k r⟩) hwrite

/-! ### WRITE_GROUP (R85) -/

theorem maskByte_setWidth (b : Byte) : maskByte (b.setWidth 4) = b &&& 0x0F := by
  revert b; decide

theorem writeGroup_answers {s t : State} {tag group enable mask : Byte} {ans : Answer}
    (h : s.hostTakes tag 0x42 [group, enable, mask]) (hrun : (s.pointTo .host).writeGroup [group, enable, mask] = (t, ans)) :
    exec .writeGroup s = .next (t.answer ⟨tag, 0x42, [group, enable, mask], false⟩ ans) :=
  congrArg Host.Outcome.next (serve_eq_answer h (length := 3) (run := fun p t => t.writeGroup p) rfl hrun)

theorem yesNo_of_bad {b : Byte} (h0 : b ≠ 0x00) (h1 : b ≠ 0x01) : yesNo b = none := by
  rw [yesNo, if_neg h1, if_neg h0]

theorem yesNo_of_good {b : Byte} (h : b = 0x00 ∨ b = 0x01) : yesNo b = some (decide (b = 0x01)) := by
  rw [yesNo_eq, if_pos h]

/-- Settles O28: the checks of a rule in order, and the two of a group. -/
theorem rulesAndGroupsAreWritten : Obligations.RulesAndGroupsAreWritten := by
  refine ⟨fun s tag slot valid action length value segments f cls groups low high lease h => ?_,
    fun s tag group enable mask h => ⟨fun hg he => ?_, fun hg h0 h1 => ?_, fun hg h0 h1 => ?_, fun g hg he => ?_⟩⟩
  · obtain ⟨hout, hin⟩ := writeRule_answers h
    refine ⟨fun c hc => ?_, fun hall k hslot => ⟨_, carriesRule_ruleBytes k _, ?_⟩⟩
    · by_cases hslot : slot.toNat < 16
      · rw [decide_eq_true hslot] at hc
        rw [hin ⟨slot.toNat, hslot⟩ rfl,
          verdict_of_failing (checks := ruleChecks valid action length value low high lease) _ hc]
        simp only [numByte, BitVec.ofNat_toNat, BitVec.setWidth_eq]
      · rw [decide_eq_false hslot] at hc
        cases hc
        exact hout (Nat.not_lt.mp hslot)
    · rw [hin k hslot, verdict_of_passing (checks := ruleChecks valid action length value low high lease) _
        fun c hc => hall c (List.mem_cons_of_mem _ hc)]
      rfl
  · refine writeGroup_answers h (t := s.pointTo .host) (ans := .badField 1) ?_
    simp only [State.writeGroup, boundedAt_of_ge _ hg, byteAt_succ, byteAt_zero, yesNo_of_good he]
  · refine ⟨numByte groupOrEnabledField, ?_, writeGroup_answers h (t := s.pointTo .host) (ans := .badField groupOrEnabledField) ?_⟩
    · unfold groupOrEnabledField
      split
      · exact .inl rfl
      · exact .inr rfl
    · simp only [State.writeGroup, boundedAt_of_ge _ hg, byteAt_succ, byteAt_zero, yesNo_of_bad h0 h1]
  · refine writeGroup_answers h (t := s.pointTo .host) (ans := .badField 2) ?_
    simp only [State.writeGroup, boundedAt_of_lt (k := (⟨group.toNat, hg⟩ : GroupNo)) _ rfl, byteAt_succ, byteAt_zero,
      yesNo_of_bad h0 h1]
  · have hpayload : groupBytes g { s.groups[g] with enabled := decide (enable = 0x01), mask := mask.setWidth 4 }
        = [group, enable, mask &&& 0x0F] ++ bytes16 (BitVec.ofNat 16 s.groups[g].members) := by
      have henable : flagByte (decide (enable = 0x01)) = enable := by rcases he with rfl | rfl <;> rfl
      rw [groupBytes, henable, maskByte_setWidth, numByte_of_toNat hg]
    rw [← hpayload]
    refine writeGroup_answers h (t := { s.pointTo .host with
      groups := s.groups.set g ⟨decide (enable = 0x01), mask.setWidth 4, s.groups[g].members⟩ }) (ans := ⟨.ok, _⟩) ?_
    simp only [State.writeGroup, boundedAt_of_lt _ hg, byteAt_succ, byteAt_zero, yesNo_of_good he]
    rfl

end Sys2Proof.Machine
end

section
/-! PROOF. The reads of settings and state (R68, R76, R86, R111, R151): O27. -/

namespace Sys2Proof.Machine

/-! ### Codes, case by case -/

theorem policyCode_eq (d : Decision) : d.policyCode = if d = .permit then 0x01 else 0x00 := by cases d <;> rfl

theorem isVisit_eq (x : SweepStep) : x.isVisit = (x != .holdList) := by cases x <;> rfl

theorem phaseCode_eq (p : ClaimPhase) : p.code = if p = .sending then 0x01 else 0x02 := by cases p <;> rfl

theorem flagByte_enabled (c : SegCtl) :
    flagByte c.enabled = if c.state = .listening ∨ c.state = .hushed then 0x01 else 0x00 := by
  rw [flagByte]
  exact if_congr SegCtl.enabled_iff rfl rfl

theorem flagByte_not (b : Bool) : flagByte (!b) = if b then 0x00 else 0x01 := by cases b <;> rfl

theorem headAttempts_byte (c : SegCtl) :
    numByte c.headAttempts = match c.tx with | [] => 0x00 | e :: _ => BitVec.ofNat 8 e.attempts := by
  rw [SegCtl.headAttempts]
  cases c.tx <;> rfl

theorem stateByte_eq (x : SegState) :
    x.code.setWidth 8 = match x with | .disabled => (0x00 : Byte) | .listening => 0x01 | .hushed => 0x02 | .fault => 0x03 := by
  cases x <;> rfl

/-! ### The reads -/

theorem readConfig_answers {s : State} {tag : Byte} (h : s.hostTakes tag 0x33 []) :
    exec .readConfig s = .next (s.answered tag 0x33 .ok (s.config.bytes ++ s.engine.configBytes)) :=
  congrArg Host.Outcome.next (serve_eq_answer h (length := 0) (run := fun _ t => t.readConfig) (t := s.pointTo .host)
    (a := ⟨.ok, s.config.bytes ++ s.engine.configBytes⟩) rfl rfl)

theorem readRule_answers {s : State} {tag b : Byte} (h : s.hostTakes tag 0x41 [b]) :
    (16 ≤ b.toNat → exec .readRule s = .next (s.answered tag 0x41 .badParameter [1]))
      ∧ ∀ k : RuleNo, b.toNat = k.val → exec .readRule s = .next (s.answered tag 0x41 .ok (ruleBytes k s.rules[k])) := by
  have hans {ans : Answer} (hrun : (s.pointTo .host).readRule [b] = (s.pointTo .host, ans)) :
      exec .readRule s = .next ((s.pointTo .host).answer ⟨tag, 0x41, [b], false⟩ ans) :=
    congrArg Host.Outcome.next (serve_eq_answer h (length := 1) (run := fun p t => t.readRule p) rfl hrun)
  refine ⟨fun hb => hans (ans := .badField 1) ?_, fun k hb => hans (ans := ⟨.ok, _⟩) ?_⟩
  · rw [State.readRule, boundedAt_of_ge _ hb]
  · rw [State.readRule, boundedAt_of_lt _ hb]; rfl

theorem readGroup_answers {s : State} {tag b : Byte} (h : s.hostTakes tag 0x43 [b]) :
    (16 ≤ b.toNat → exec .readGroup s = .next (s.answered tag 0x43 .badParameter [1]))
      ∧ ∀ g : GroupNo, b.toNat = g.val →
        exec .readGroup s = .next (s.answered tag 0x43 .ok (groupBytes g s.groups[g])) := by
  have hans {ans : Answer} (hrun : (s.pointTo .host).readGroup [b] = (s.pointTo .host, ans)) :
      exec .readGroup s = .next ((s.pointTo .host).answer ⟨tag, 0x43, [b], false⟩ ans) :=
    congrArg Host.Outcome.next (serve_eq_answer h (length := 1) (run := fun p t => t.readGroup p) rfl hrun)
  refine ⟨fun hb => hans (ans := .badField 1) ?_, fun k hb => hans (ans := ⟨.ok, _⟩) ?_⟩
  · rw [State.readGroup, boundedAt_of_ge _ hb]
  · rw [State.readGroup, boundedAt_of_lt _ hb]; rfl

theorem readClaim_answers {s : State} {tag b : Byte} (h : s.hostTakes tag 0x50 [b]) :
    (8 ≤ b.toNat → exec .readClaim s = .next (s.answered tag 0x50 .badParameter [1]))
      ∧ ∀ k : SlotNo, b.toNat = k.val →
        exec .readClaim s = .next (s.answered tag 0x50 .ok (claimBytes k s.slots[k])) := by
  have hans {ans : Answer} (hrun : (s.pointTo .host).readClaim [b] = (s.pointTo .host, ans)) :
      exec .readClaim s = .next ((s.pointTo .host).answer ⟨tag, 0x50, [b], false⟩ ans) :=
    congrArg Host.Outcome.next (serve_eq_answer h (length := 1) (run := fun p t => t.readClaim p) rfl hrun)
  refine ⟨fun hb => hans (ans := .badField 1) ?_, fun k hb => hans (ans := ⟨.ok, _⟩) ?_⟩
  · rw [State.readClaim, boundedAt_of_ge _ hb]
  · rw [State.readClaim, boundedAt_of_lt _ hb]; rfl

theorem readSegment_answers {s : State} {tag b : Byte} (h : s.hostTakes tag 0x61 [b]) :
    (4 ≤ b.toNat → exec .readSegment s = .next (s.answered tag 0x61 .badParameter [1]))
      ∧ ∀ n : SegNo, b.toNat = n.val → exec .readSegment s = .next (s.answered tag 0x61 .ok (s.segmentImage n)) := by
  have hans {ans : Answer} (hrun : (s.pointTo .host).readSegment [b] = (s.pointTo .host, ans)) :
      exec .readSegment s = .next ((s.pointTo .host).answer ⟨tag, 0x61, [b], false⟩ ans) :=
    congrArg Host.Outcome.next (serve_eq_answer h (length := 1) (run := fun p t => t.readSegment p) rfl hrun)
  refine ⟨fun hb => hans (ans := .badField 1) ?_, fun k hb => hans (ans := ⟨.ok, _⟩) ?_⟩
  · rw [State.readSegment, boundedAt_of_ge _ hb]
  · rw [State.readSegment, boundedAt_of_lt _ hb]; rfl

/-! ### The obligation -/

theorem claimBytes_some {k : SlotNo} {b : Byte} (hb : b.toNat = k.val) (c : Claim) : claimBytes k (some c) =
    [b, if c.phase = .sending then 0x01 else 0x02, BitVec.ofNat 8 c.record.val] ++ idBytes c.id
      ++ [BitVec.ofNat 8 c.segment.val, c.replyTo, c.address] ++ bytes16 c.nonce
      ++ [BitVec.ofNat 8 c.repeats, BitVec.ofNat 8 c.declines] ++ bytes16 (BitVec.ofNat 16 c.window)
      ++ [c.low, c.high] ++ bytes16 c.groups := by
  rw [claimBytes, phaseCode_eq, numByte_of_toNat hb]; rfl

/-- Settles O27: each read by its equation, and each answer by the codes of its fields. -/
theorem settingsReadBack : Obligations.SettingsReadBack := by
  intro s tag
  refine ⟨fun h => ⟨bitsByte [s.engine.sweeping, s.engine.sweepNext.isVisit, s.engine.flushing], ?_, ?_, ?_, ?_⟩,
    fun b h => ⟨(readRule_answers h).1, fun k hb => ⟨_, carriesRule_ruleBytes k _, (readRule_answers h).2 k hb⟩⟩,
    fun b h => ⟨(readGroup_answers h).1, fun g hb => ((readGroup_answers h).2 g hb).trans ?_⟩,
    fun b h => ⟨(readClaim_answers h).1, fun k hb => ⟨fun hc => ((readClaim_answers h).2 k hb).trans ?_,
      fun c hc => ((readClaim_answers h).2 k hb).trans ?_⟩⟩,
    fun b h => readSegment_answers h,
    fun n => ⟨bitsByte [s.segs[n].faultNotice, s.segs[n].rxError, s.segs[n].overflow], ?_, ?_, ?_, ?_⟩⟩
  · exact bitsByte_getLsbD _ (by decide)
  · rw [← isVisit_eq]
    exact bitsByte_getLsbD _ (by decide)
  · exact bitsByte_getLsbD _ (by decide)
  · rw [readConfig_answers h, Params.bytes, policyCode_eq]; rfl
  · rw [groupBytes, numByte_of_toNat hb]; rfl
  · rw [hc, claimBytes, numByte_of_toNat hb]
  · rw [hc, claimBytes_some hb]
  · exact bitsByte_getLsbD _ (by decide)
  · exact bitsByte_getLsbD _ (by decide)
  · exact bitsByte_getLsbD _ (by decide)
  · rw [State.segmentImage, segmentBytes, headAttempts_byte, flagByte_enabled, flagByte_not, stateByte_eq]
    rfl

end Sys2Proof.Machine
end

section
/-! PROOF. SEGMENT_CONTROL (R148 to R150): O29. -/

namespace Sys2Proof.Machine

/-! ### The checks -/

/-- The checks of SEGMENT_CONTROL, with the numbers of the fields. -/
def segmentChecks (segment enable learning refuse rate clear : Byte) : List (Bool × Byte) :=
  [(segment.toNat < 4, 1), (decide (enable = 0x00 ∨ enable = 0x01), 2), (decide (learning = 0x00 ∨ learning = 0x01), 3),
   (decide (refuse = 0x00 ∨ refuse = 0x01), 4), (rate.toNat < 4, 6), (decide (clear = 0x00 ∨ clear = 0x01), 7)]

/-- The bit rate of a code below 4. -/
def rateOf (rate : Byte) : BitRate := if rate = 0 then .k62 else if rate = 1 then .k125 else if rate = 2 then .k250 else .k500

theorem bitRateOf_eq (b : Byte) : bitRateOf b = if b.toNat < 4 then some (rateOf b) else none := by
  by_cases h : b.toNat < 4
  · have hb : b = 0 ∨ b = 1 ∨ b = 2 ∨ b = 3 := by
      have hfour : b.toNat = 0 ∨ b.toNat = 1 ∨ b.toNat = 2 ∨ b.toNat = 3 := by omega
      rcases hfour with h | h | h | h
      · exact .inl (BitVec.eq_of_toNat_eq h)
      · exact .inr (.inl (BitVec.eq_of_toNat_eq h))
      · exact .inr (.inr (.inl (BitVec.eq_of_toNat_eq h)))
      · exact .inr (.inr (.inr (BitVec.eq_of_toNat_eq h)))
    rw [if_pos h]
    rcases hb with rfl | rfl | rfl | rfl <;> rfl
  · have hne (k : Byte) (hk : k.toNat < 4) : b ≠ k := fun he => h (he ▸ hk)
    rw [if_neg h, bitRateOf, if_neg (hne 0 (by decide)), if_neg (hne 1 (by decide)), if_neg (hne 2 (by decide)),
      if_neg (hne 3 (by decide))]

theorem yesNo_isSome (b : Byte) : (yesNo b).isSome = decide (b = 0x00 ∨ b = 0x01) := by
  rw [yesNo_eq]
  split
  · next h => rw [decide_eq_true h]; rfl
  · next h => rw [decide_eq_false h]; rfl

theorem boundedAt_isSome (n : Nat) (p : List Byte) (k : Nat) : (boundedAt n p k).isSome = decide ((byteAt p k).toNat < n) := by
  rw [boundedAt]
  split
  · next h => rw [decide_eq_true h]; rfl
  · next h => rw [decide_eq_false h]; rfl

theorem bitRateOf_isSome (b : Byte) : (bitRateOf b).isSome = decide (b.toNat < 4) := by
  rw [bitRateOf_eq]
  split
  · next h => rw [decide_eq_true h]; rfl
  · next h => rw [decide_eq_false h]; rfl

/-- The first field that fails gives its number. -/
theorem segFields_of_failing {p : List Byte} {c : Bool × Byte}
    (h : (segmentChecks (byteAt p 0) (byteAt p 1) (byteAt p 2) (byteAt p 3) (byteAt p 5) (byteAt p 6)).find?
      (fun c => !c.1) = some c) : SegFields.ofPayload p = .error c.2.toNat := by
  rw [segmentChecks, ← boundedAt_isSome 4 p 0, ← yesNo_isSome (byteAt p 1), ← yesNo_isSome (byteAt p 2),
    ← yesNo_isSome (byteAt p 3), ← yesNo_isSome (byteAt p 6), ← bitRateOf_isSome (byteAt p 5)] at h
  unfold SegFields.ofPayload
  cases h0 : boundedAt 4 p 0 with
  | none => rw [h0] at h; cases h; rfl
  | some n =>
    cases h1 : yesNo (byteAt p 1) with
    | none => rw [h0, h1] at h; cases h; rfl
    | some e =>
      cases h2 : yesNo (byteAt p 2) with
      | none => rw [h0, h1, h2] at h; cases h; rfl
      | some l =>
        cases h3 : yesNo (byteAt p 3) with
        | none => rw [h0, h1, h2, h3] at h; cases h; rfl
        | some r =>
          cases h5 : bitRateOf (byteAt p 5) with
          | none => rw [h0, h1, h2, h3, h5] at h; cases h; rfl
          | some b =>
            cases h6 : yesNo (byteAt p 6) with
            | none => rw [h0, h1, h2, h3, h5, h6] at h; cases h; rfl
            | some x => rw [h0, h1, h2, h3, h5, h6] at h; cases h

/-- The fields of a SEGMENT_CONTROL whose checks pass. -/
theorem segFields_of_passing {segment enable learning refuse visible rate clear : Byte} {n : SegNo}
    (h : ∀ c ∈ segmentChecks segment enable learning refuse rate clear, c.1 = true) (hn : segment.toNat = n.val) :
    SegFields.ofPayload [segment, enable, learning, refuse, visible, rate, clear] = .ok
      ⟨n, decide (enable = 0x01), decide (learning = 0x01), decide (refuse = 0x00), visible.setWidth 4, rateOf rate,
        decide (clear = 0x01)⟩ := by
  simp only [segmentChecks, List.forall_mem_cons, decide_eq_true_iff] at h
  obtain ⟨_, henable, hlearning, hrefuse, hrate, hclear, _⟩ := h
  have hmoves : (!decide (refuse = 0x01)) = decide (refuse = 0x00) := by rcases hrefuse with rfl | rfl <;> rfl
  unfold SegFields.ofPayload
  rw [boundedAt_of_lt _ hn]
  simp only [byteAt_succ, byteAt_zero, yesNo_of_good henable, yesNo_of_good hlearning, yesNo_of_good hrefuse,
    yesNo_of_good hclear, bitRateOf_eq, if_pos hrate, hmoves, maskAt]

/-! ### Withdrawal beside a controller -/

/-- t differs from s in the pointer, the policies and controller n at most. -/
def AlikeBut (n : SegNo) (s t : State) : Prop :=
  t = { s with engine := { s.engine with pointer := t.engine.pointer }, policy := t.policy, segs := t.segs }
    ∧ ∀ m : SegNo, m ≠ n → t.segs[m] = s.segs[m]

theorem AlikeBut.slots {n : SegNo} {s t : State} (h : AlikeBut n s t) : t.slots = s.slots := by rw [h.1]

theorem AlikeBut.withdraw {n : SegNo} {s t : State} (h : AlikeBut n s t) (k : SlotNo) :
    AlikeBut n (s.withdraw k) (t.withdraw k) ∧ (t.withdraw k).engine.pointer = t.engine.pointer
      ∧ (t.withdraw k).policy = t.policy := by
  have hslots := h.slots
  obtain ⟨heq, hsegs⟩ := h
  cases hc : s.slots[k] with
  | none =>
    have hs : s.withdraw k = s.freeSlot k := by rw [State.withdraw, hc]
    have ht : t.withdraw k = t.freeSlot k := by rw [State.withdraw, hslots, hc]
    rw [hs, ht]
    refine ⟨⟨?_, hsegs⟩, rfl, rfl⟩
    generalize t.engine.pointer = q at heq
    generalize t.policy = pol at heq
    generalize t.segs = g at heq
    subst heq
    rfl
  | some c =>
    rw [withdraw_eq hc, withdraw_eq (s := t) (by rw [hslots, hc])]
    refine ⟨⟨?_, fun m hm => ?_⟩, rfl, rfl⟩
    · generalize t.engine.pointer = q at heq
      generalize t.policy = pol at heq
      generalize t.segs = g at heq
      subst heq
      rfl
    · show (t.removeOffers c.nonce).segs[m] = (s.removeOffers c.nonce).segs[m]
      rw [removeOffers_getElem, removeOffers_getElem, hsegs m hm]

theorem AlikeBut.withdrawWhere {n : SegNo} {s t : State} (h : AlikeBut n s t) (p : Claim → Bool) :
    AlikeBut n (s.withdrawWhere p) (t.withdrawWhere p) ∧ (t.withdrawWhere p).engine.pointer = t.engine.pointer
      ∧ (t.withdrawWhere p).policy = t.policy := by
  unfold State.withdrawWhere
  generalize slotsDescending = ks
  induction ks generalizing s t with
  | nil => exact ⟨h, rfl, rfl⟩
  | cons k ks ih =>
    rw [List.foldl_cons, List.foldl_cons, h.slots]
    split
    · obtain ⟨hk, hpointer, hpolicy⟩ := h.withdraw k
      obtain ⟨hall, hpointer', hpolicy'⟩ := ih hk
      exact ⟨hall, hpointer'.trans hpointer, hpolicy'.trans hpolicy⟩
    · exact ih h

/-- Controller n put in place. -/
theorem AlikeBut.put {n : SegNo} {s t : State} (h : AlikeBut n s t) (c : SegCtl) : t.withSeg n c = { s with
    engine := { s.engine with pointer := t.engine.pointer }, policy := t.policy, segs := s.segs.set n c } := by
  obtain ⟨heq, hsegs⟩ := h
  have hset : t.segs.set n c = s.segs.set n c := by
    refine Vector.ext fun m hm => ?_
    rw [Vector.getElem_set, Vector.getElem_set]
    split
    · rfl
    · next hne => exact hsegs ⟨m, hm⟩ fun h => hne (congrArg Fin.val h).symm
  rw [State.withSeg, hset]
  generalize t.engine.pointer = q at heq
  generalize t.policy = pol at heq
  generalize t.segs = g at heq
  subst heq
  rfl

theorem AlikeBut.of_withSeg {n : SegNo} {s t : State} (h : AlikeBut n s t) (c : SegCtl) : AlikeBut n s (t.withSeg n c) := by
  obtain ⟨heq, hsegs⟩ := h
  refine ⟨?_, fun m hm => ?_⟩
  · generalize t.engine.pointer = q at heq
    generalize t.policy = pol at heq
    generalize t.segs = g at heq
    subst heq
    rfl
  · rw [withSeg_getElem, if_neg hm.symm]; exact hsegs m hm

theorem AlikeBut.of_policy {n : SegNo} {s t : State} (h : AlikeBut n s t) (pol : Vector Policy 4) :
    AlikeBut n s { t with policy := pol } := by
  obtain ⟨heq, hsegs⟩ := h
  refine ⟨?_, hsegs⟩
  generalize t.engine.pointer = q at heq
  generalize t.policy = pol at heq
  generalize t.segs = g at heq
  subst heq
  rfl

theorem alikeBut_pointTo (n : SegNo) (s : State) (q : Requester) : AlikeBut n s (s.pointTo q) := ⟨rfl, fun _ _ => rfl⟩

/-- The segment as the first step leaves it. -/
theorem alikeBut_clearing (s : State) (n : SegNo) (c : SegCtl) : AlikeBut n s ((s.pointTo .host).withSeg n c) :=
  (alikeBut_pointTo n s .host).of_withSeg c

/-! ### A withdrawal leaves a controller its other parts -/

theorem withdraw_seg (s : State) (k : SlotNo) (n : SegNo) :
    (s.withdraw k).segs[n] = { s.segs[n] with tx := (s.withdraw k).segs[n].tx } := by
  cases hc : s.slots[k] with
  | none =>
    rw [State.withdraw, hc]
    rfl
  | some c =>
    have hseg : (s.withdraw k).segs[n] = s.segs[n].dropOffers c.nonce := by
      rw [withdraw_eq hc]
      exact removeOffers_getElem s c.nonce n
    rw [hseg, dropOffers_eq]
    split <;> rfl

theorem withdrawWhere_seg (s : State) (p : Claim → Bool) (n : SegNo) :
    (s.withdrawWhere p).segs[n] = { s.segs[n] with tx := (s.withdrawWhere p).segs[n].tx } := by
  unfold State.withdrawWhere
  generalize slotsDescending = ks
  induction ks generalizing s with
  | nil => rfl
  | cons k ks ih =>
    rw [List.foldl_cons]
    split
    · rw [ih, withdraw_seg s k n]
    · exact ih s

/-! ### The effect (R148 to R150) -/

/-- The state w with segment f.segment controlled: its policy and its controller as given. -/
def State.controlled (w : State) (f : SegFields) (c : SegCtl) : State := { w with
  engine := { w.engine with pointer := .host }
  policy := w.policy.set f.segment ⟨f.learning, f.acceptMoves, f.visible ||| BitVec.twoPow 4 f.segment.val⟩
  segs := w.segs.set f.segment c }

/-- A controller whose flags have been cleared when that was asked for. -/
def SegCtl.flagsKept (c : SegCtl) (clear : Bool) : SegCtl :=
  { c with rxError := c.rxError && !clear, overflow := c.overflow && !clear }

/-- The first step: the flags cleared when asked. -/
theorem clearing_eq (s : State) (n : SegNo) (clear : Bool) :
    (if clear then s.clearSegFlags n else s) = s.withSeg n (s.segs[n].flagsKept clear) := by
  cases clear with
  | true => simp [State.clearSegFlags, SegCtl.flagsKept]
  | false =>
    have hkept : s.segs[n].flagsKept false = s.segs[n] := by simp [SegCtl.flagsKept]
    rw [hkept, State.withSeg, Fin.getElem_fin, Vector.set_getElem_self]
    rfl

/-- The state after the first step. -/
def State.flagsCleared (s : State) (f : SegFields) : State :=
  s.withSeg f.segment (s.segs[f.segment].flagsKept f.clearFlags)

theorem flagsCleared_seg (s : State) (f : SegFields) :
    (s.flagsCleared f).segs[f.segment] = s.segs[f.segment].flagsKept f.clearFlags := by
  rw [State.flagsCleared, withSeg_getElem, if_pos rfl]

theorem setSegment_enabled (s : State) (f : SegFields) :
    (s.setSegment f).segs[f.segment].enabled = s.segs[f.segment].enabled := by
  have hseg : (s.setSegment f).segs[f.segment] = { s.segs[f.segment] with bitRate := f.bitRate } := by
    show (s.withSeg f.segment _).segs[f.segment] = _
    rw [withSeg_getElem, if_pos rfl]
  rw [hseg]
  rfl

/-- The state after the second step. -/
def State.disabledIfAsked (s : State) (f : SegFields) : State :=
  if f.enable = false ∧ (s.flagsCleared f).segs[f.segment].state ≠ .disabled then
    (s.flagsCleared f).disableSegment f.segment
  else s.flagsCleared f

theorem controlSegment_eq (s : State) (f : SegFields) : s.controlSegment f =
    if f.enable = true ∧ (s.disabledIfAsked f).segs[f.segment].enabled = false then
      ((s.disabledIfAsked f).setSegment f).enableSegment f.segment
    else (s.disabledIfAsked f).setSegment f := by
  rw [State.controlSegment, clearing_eq, ← State.flagsCleared, ← setSegment_enabled (s.disabledIfAsked f) f]
  rfl

theorem disabledIfAsked_of_not {s : State} {f : SegFields} (h : f.enable = true ∨ s.segs[f.segment].state = .disabled) :
    s.disabledIfAsked f = s.flagsCleared f := by
  refine if_neg fun hneg => ?_
  rcases h with h | h
  · exact absurd (hneg.1.symm.trans h) Bool.false_ne_true
  · exact hneg.2 (by rw [flagsCleared_seg]; exact h)

theorem controlSegment_of_disable {s : State} {f : SegFields} (he : f.enable = false)
    (hd : s.segs[f.segment].state ≠ .disabled) :
    s.controlSegment f = ((s.flagsCleared f).disableSegment f.segment).setSegment f := by
  have hdown : s.disabledIfAsked f = (s.flagsCleared f).disableSegment f.segment :=
    if_pos ⟨he, by rw [flagsCleared_seg]; exact hd⟩
  rw [controlSegment_eq, hdown, if_neg fun h => absurd (he.symm.trans h.1) Bool.false_ne_true]

theorem controlSegment_of_stay {s : State} {f : SegFields}
    (h : (f.enable = false ∧ s.segs[f.segment].state = .disabled) ∨ (f.enable = true ∧ s.segs[f.segment].enabled = true)) :
    s.controlSegment f = (s.flagsCleared f).setSegment f := by
  rw [controlSegment_eq, disabledIfAsked_of_not (h.elim (fun h => .inr h.2) fun h => .inl h.1), if_neg]
  rintro ⟨he, hd⟩
  rcases h with h | h
  · exact absurd (h.1.symm.trans he) Bool.false_ne_true
  · rw [flagsCleared_seg] at hd
    exact absurd (hd.symm.trans h.2) Bool.false_ne_true

theorem controlSegment_of_enable {s : State} {f : SegFields} (he : f.enable = true)
    (hd : s.segs[f.segment].enabled = false) :
    s.controlSegment f = ((s.flagsCleared f).setSegment f).enableSegment f.segment := by
  rw [controlSegment_eq, disabledIfAsked_of_not (.inl he), if_pos ⟨he, by rw [flagsCleared_seg]; exact hd⟩]

/-- The third step: the segment's settings. -/
theorem setSegment_put {s t : State} {f : SegFields} (h : AlikeBut f.segment s t) (hpointer : t.engine.pointer = .host)
    (hpolicy : t.policy = s.policy) :
    t.setSegment f = s.controlled f { t.segs[f.segment] with bitRate := f.bitRate } := by
  have hput := h.put { t.segs[f.segment] with bitRate := f.bitRate }
  rw [State.setSegment, hput, hpointer, hpolicy]
  rfl

theorem withdrawSegment_policy (s : State) (n : SegNo) : (s.withdrawSegment n).policy = s.policy := by
  rw [State.withdrawSegment, withdrawWhere_frame]

/-- A disabled controller: nothing held, and the flags and the bit rate as they are. -/
def SegCtl.disabledAs (c : SegCtl) (rate : BitRate) : SegCtl :=
  ⟨.disabled, .off, .idle, .off, [], [], [], false, c.rxError, c.overflow, rate, []⟩

/-- A controller enabled from DISABLED or FAULT. -/
def SegCtl.enabledAs (rate : BitRate) : SegCtl :=
  ⟨.listening, .gap, .idle, .measuring, [], [], [], false, false, false, rate, []⟩

theorem disableSegment_then_set {s t : State} {f : SegFields} (h : AlikeBut f.segment s t) (hpointer : t.engine.pointer = .host)
    (hpolicy : t.policy = s.policy) : (t.disableSegment f.segment).setSegment f
      = (s.withdrawSegment f.segment).controlled f (t.segs[f.segment].disabledAs f.bitRate) := by
  obtain ⟨halike, hpointer', hpolicy'⟩ := h.withdrawWhere fun c => c.segment == f.segment
  have hseg := withdrawWhere_seg t (fun c => c.segment == f.segment) f.segment
  rw [← State.withdrawSegment] at hseg hpointer' hpolicy'
  rw [← State.withdrawSegment, ← State.withdrawSegment] at halike
  have hpolicy := (hpolicy'.trans hpolicy).trans (withdrawSegment_policy s f.segment).symm
  have hpointer := hpointer'.trans hpointer
  rw [State.disableSegment]
  simp only
  generalize t.withdrawSegment f.segment = t' at *
  generalize s.withdrawSegment f.segment = s' at *
  rw [setSegment_put (halike.of_withSeg _) hpointer hpolicy, withSeg_getElem, if_pos rfl, hseg]
  rfl

theorem enableSegment_put {n : SegNo} {s t : State} (h : AlikeBut n s t) : t.enableSegment n =
    { (if t.segs[n].faultNotice then s.withdrawSegment n else s) with
      engine := { (if t.segs[n].faultNotice then s.withdrawSegment n else s).engine with pointer := t.engine.pointer }
      policy := t.policy
      segs := (if t.segs[n].faultNotice then s.withdrawSegment n else s).segs.set n (.enabledAs t.segs[n].bitRate) } := by
  rw [State.enableSegment]
  cases t.segs[n].faultNotice with
  | false => exact h.put _
  | true =>
    obtain ⟨halike, hpointer, hpolicy⟩ := h.withdrawWhere fun c => c.segment == n
    have hseg := withdrawWhere_seg t (fun c => c.segment == n) n
    rw [← State.withdrawSegment] at hseg hpointer hpolicy
    rw [← State.withdrawSegment, ← State.withdrawSegment] at halike
    rw [if_pos rfl, if_pos rfl, ← hpointer, ← hpolicy]
    simp only
    generalize t.withdrawSegment n = t' at *
    generalize s.withdrawSegment n = s' at *
    rw [hseg]
    exact halike.put _

theorem set_then_enableSegment {s t : State} {f : SegFields} (h : AlikeBut f.segment s t) (hpointer : t.engine.pointer = .host)
    (hpolicy : t.policy = s.policy) : (t.setSegment f).enableSegment f.segment
      = (if t.segs[f.segment].faultNotice then s.withdrawSegment f.segment else s).controlled f (.enabledAs f.bitRate) := by
  have hseg : (t.setSegment f).segs[f.segment] = { t.segs[f.segment] with bitRate := f.bitRate } := by
    show (t.withSeg f.segment _).segs[f.segment] = _
    rw [withSeg_getElem, if_pos rfl]
  have hset : AlikeBut f.segment s (t.setSegment f) := (h.of_withSeg _).of_policy _
  have hwithdrawn : (if t.segs[f.segment].faultNotice then s.withdrawSegment f.segment else s).policy = s.policy := by
    split
    · exact withdrawSegment_policy s f.segment
    · rfl
  rw [enableSegment_put hset, hseg, State.controlled, hwithdrawn, ← hpolicy, ← hpointer]
  rfl

/-- A controlled segment answers with its image. -/
theorem answer_controlled {s w : State} {f : SegFields} {c : SegCtl} {r : Request} {tag : Byte} (hr : r.tag = tag)
    (hcode : r.command = 0x60) (hport : w.port = s.port) (hpolicy : w.policy = s.policy) :
    ∃ t, (w.controlled f c).answer r ⟨.ok, (w.controlled f c).segmentImage f.segment⟩ = t
      ∧ t = { w with
          engine := { w.engine with pointer := .host }
          policy := s.policy.set f.segment ⟨f.learning, f.acceptMoves, f.visible ||| BitVec.twoPow 4 f.segment.val⟩
          segs := w.segs.set f.segment t.segs[f.segment]
          port := (s.answered tag 0x60 .ok (t.segmentImage f.segment)).port }
      ∧ t.segs[f.segment] = c := by
  have hseg : ((w.controlled f c).answer r ⟨.ok, (w.controlled f c).segmentImage f.segment⟩).segs[f.segment] = c := by
    show (w.segs.set f.segment c)[f.segment] = c
    rw [Fin.getElem_fin, Vector.getElem_set_self]
  refine ⟨_, rfl, ?_, hseg⟩
  rw [hseg, ← hpolicy]
  subst hr
  simp only [State.answer, State.answered, hcode, ← hport]
  rfl

/-- Another bit rate is refused on an enabled segment that stays enabled. -/
theorem segmentControl_of_wrong {s : State} {p : List Byte} {f : SegFields} (hf : SegFields.ofPayload p = .ok f)
    (h : f.bitRate ≠ s.segs[f.segment].bitRate ∧ s.segs[f.segment].enabled = true ∧ f.enable = true) :
    s.segmentControl p = (s, .bare .wrongState) := by
  rw [State.segmentControl, hf]
  exact if_pos h

theorem segmentControl_of_right {s : State} {p : List Byte} {f : SegFields} (hf : SegFields.ofPayload p = .ok f)
    (h : ¬(f.bitRate ≠ s.segs[f.segment].bitRate ∧ s.segs[f.segment].enabled = true ∧ f.enable = true)) :
    s.segmentControl p = (s.controlSegment f, ⟨.ok, (s.controlSegment f).segmentImage f.segment⟩) := by
  rw [State.segmentControl, hf]
  exact if_neg h

theorem enabled_eq_false {c : SegCtl} (h : ¬(c.state = .listening ∨ c.state = .hushed)) : c.enabled = false :=
  Bool.eq_false_iff.mpr fun he => h (SegCtl.enabled_iff.mp he)

theorem withdrawSegment_port (s : State) (n : SegNo) : (s.withdrawSegment n).port = s.port := withdrawWhere_port ..

/-- The effect of a SEGMENT_CONTROL that passes its checks, by what was asked and the segment's state. -/
theorem controlSegment_effect (s : State) (f : SegFields) : ∃ w c,
    (s.pointTo .host).controlSegment f = w.controlled f c ∧ w.port = s.port ∧ w.policy = s.policy
      ∧ (f.enable = false → s.segs[f.segment].state ≠ .disabled → w = s.withdrawSegment f.segment
        ∧ c = (s.segs[f.segment].flagsKept f.clearFlags).disabledAs f.bitRate)
      ∧ ((f.enable = false ∧ s.segs[f.segment].state = .disabled) ∨ (f.enable = true ∧ s.segs[f.segment].enabled = true) →
        w = s ∧ c = { s.segs[f.segment].flagsKept f.clearFlags with bitRate := f.bitRate })
      ∧ (f.enable = true → s.segs[f.segment].enabled = false →
        w = (if s.segs[f.segment].faultNotice then s.withdrawSegment f.segment else s) ∧ c = .enabledAs f.bitRate) := by
  have hstart : AlikeBut f.segment s ((s.pointTo .host).flagsCleared f) := alikeBut_clearing ..
  have hflags : ((s.pointTo .host).flagsCleared f).segs[f.segment] = s.segs[f.segment].flagsKept f.clearFlags :=
    flagsCleared_seg (s.pointTo .host) f
  cases he : f.enable with
  | false =>
    by_cases hd : s.segs[f.segment].state = .disabled
    · refine ⟨s, { s.segs[f.segment].flagsKept f.clearFlags with bitRate := f.bitRate }, ?_, rfl, rfl,
        fun _ h => absurd hd h, fun _ => ⟨rfl, rfl⟩, nofun⟩
      rw [controlSegment_of_stay (s := s.pointTo .host) (.inl ⟨he, hd⟩), setSegment_put hstart rfl rfl, hflags]
    · refine ⟨s.withdrawSegment f.segment, (s.segs[f.segment].flagsKept f.clearFlags).disabledAs f.bitRate, ?_,
        withdrawSegment_port .., withdrawSegment_policy .., fun _ _ => ⟨rfl, rfl⟩, ?_, nofun⟩
      · rw [controlSegment_of_disable (s := s.pointTo .host) he hd, disableSegment_then_set hstart rfl rfl, hflags]
      · rintro (⟨_, h⟩ | ⟨h, _⟩)
        · exact absurd h hd
        · cases h
  | true =>
    cases hup : s.segs[f.segment].enabled with
    | true =>
      refine ⟨s, { s.segs[f.segment].flagsKept f.clearFlags with bitRate := f.bitRate }, ?_, rfl, rfl, nofun,
        fun _ => ⟨rfl, rfl⟩, nofun⟩
      rw [controlSegment_of_stay (s := s.pointTo .host) (.inr ⟨he, hup⟩), setSegment_put hstart rfl rfl, hflags]
    | false =>
      refine ⟨if s.segs[f.segment].faultNotice then s.withdrawSegment f.segment else s, .enabledAs f.bitRate, ?_, ?_, ?_,
        nofun, ?_, fun _ _ => ⟨rfl, rfl⟩⟩
      · rw [controlSegment_of_enable (s := s.pointTo .host) he hup, set_then_enableSegment hstart rfl rfl, hflags]
        rfl
      · split
        · exact withdrawSegment_port ..
        · rfl
      · split
        · exact withdrawSegment_policy ..
        · rfl
      · rintro (⟨h, _⟩ | ⟨_, h⟩) <;> cases h

/-- Settles O29: the checks in order, and the effect by what was asked and the segment's state. -/
theorem segmentControlActs : Obligations.SegmentControlActs := by
  intro s tag segment enable learning refuse visible rate clear h
  have hans {t : State} {ans : Answer} (hrun : (s.pointTo .host).segmentControl _ = (t, ans)) :
      exec .segmentControl s = .next (t.answer ⟨tag, 0x60, _, false⟩ ans) :=
    congrArg Host.Outcome.next (serve_eq_answer h (length := 7) (run := fun p t => t.segmentControl p) rfl hrun)
  refine ⟨fun c hc => ?_, fun hall n hn => ?_⟩
  · refine hans (t := s.pointTo .host) (ans := ⟨.badParameter, [c.2]⟩) ?_
    rw [State.segmentControl, segFields_of_failing (p := [segment, enable, learning, refuse, visible, rate, clear]) hc,
      ← badField_toNat]
  · have hfields := segFields_of_passing (visible := visible) hall hn
    have henable : enable = 0x00 ∨ enable = 0x01 := of_decide_eq_true (hall (_, 2) (.tail _ (.head _)))
    have hclear : clear = 0x00 ∨ clear = 0x01 :=
      of_decide_eq_true (hall (_, 7) (.tail _ (.tail _ (.tail _ (.tail _ (.tail _ (.head _)))))))
    have hkept : (!decide (clear = 0x01)) = (clear == 0x00) := by rcases hclear with rfl | rfl <;> rfl
    have hoff : enable = 0x00 → decide (enable = 0x01) = false := fun h => by rw [h]; rfl
    refine ⟨fun ⟨he, hup, hrate⟩ => ?_, fun hright => ?_⟩
    · exact hans (t := s.pointTo .host) (ans := .bare .wrongState) (segmentControl_of_wrong hfields
        ⟨hrate, SegCtl.enabled_iff.mpr hup, decide_eq_true he⟩)
    let f : SegFields := ⟨n, decide (enable = 0x01), decide (learning = 0x01), decide (refuse = 0x00), visible.setWidth 4,
      rateOf rate, decide (clear = 0x01)⟩
    obtain ⟨w, c, hcontrol, hport, hpolicy, hdisables, hstays, henables⟩ := controlSegment_effect s f
    have hexec := hans (segmentControl_of_right hfields fun ⟨hrate, hup, he⟩ =>
      hright ⟨of_decide_eq_true he, SegCtl.enabled_iff.mp hup, hrate⟩)
    rw [hcontrol] at hexec
    obtain ⟨t, ht, hframe, hseg⟩ := answer_controlled (s := s) (f := f) (c := c) (tag := tag)
      (r := ⟨tag, 0x60, [segment, enable, learning, refuse, visible, rate, clear], false⟩) rfl rfl hport hpolicy
    refine ⟨w, t, hexec.trans (congrArg Host.Outcome.next ht), hframe, fun he hd => ?_, fun h => ?_, fun he hup => ?_⟩
    · obtain ⟨hw, hc⟩ := hdisables (hoff he) hd
      refine ⟨hw, hseg.trans (hc.trans ?_)⟩
      rw [SegCtl.flagsKept, hkept]; rfl
    · obtain ⟨hw, hc⟩ := hstays (h.imp (fun h => ⟨hoff h.1, h.2⟩) fun h => ⟨decide_eq_true h.1, SegCtl.enabled_iff.mpr h.2⟩)
      refine ⟨hw, hseg.trans (hc.trans ?_)⟩
      rw [SegCtl.flagsKept, hkept]; rfl
    · obtain ⟨hw, hc⟩ := henables (decide_eq_true he) (enabled_eq_false hup)
      exact ⟨hw, hseg.trans hc⟩

end Sys2Proof.Machine
end

section
/-! PROOF. Time and reset (R58, R91, R113, R183): O2, O3 and O5. -/

namespace Sys2Proof.Machine

/-! ### Time (R58, R91, R113) -/

theorem step_of_empty {s : State} (h : s.pending = []) : step s = .next s.refclkPeriod := by
  rw [step, h]

theorem exec_millisecond {s : State} (h : s.phase = .operating) : exec .millisecond s = .next s.completeMillisecond :=
  congrArg Host.Outcome.next (if_pos h)

/-- Settles O2: by the phase and the divider. -/
theorem emptyQueueCountsRefclk : Obligations.EmptyQueueCountsRefclk := by
  intro s hempty
  refine ⟨fun hop hdiv => ?_, fun hop hdiv => ?_, fun hop => ?_⟩ <;> rw [step_of_empty hempty, State.refclkPeriod]
  · rw [if_pos hop, if_neg (Nat.not_le.mpr hdiv)]
  · rw [if_pos hop, if_pos hdiv, exec_millisecond hop]
  · rw [if_neg hop]

theorem completeMillisecond_of_before {s : State} (h : s.aging.tickCount + 1 < s.config.tickPeriod.toNat * 100) :
    s.completeMillisecond = { s.countWindows with aging := { divider := 0, tickCount := s.aging.tickCount + 1 } } :=
  if_neg (Nat.not_le.mpr h)

/-- The millisecond that completes a tick period delivers a tick, as AGING_TICK does. -/
theorem completeMillisecond_of_tick {s : State} (h : s.config.tickPeriod.toNat * 100 ≤ s.aging.tickCount + 1) :
    s.completeMillisecond = s.countWindows.agingRestarted.deliverTick := if_pos h

/-- Settles O3: the windows by countWindows, and the tick by the counter. -/
theorem millisecondCountsWindowsAndTicks : Obligations.MillisecondCountsWindowsAndTicks := by
  intro s hop
  refine ⟨s.countWindows, rfl, countWindows_slots s, rfl, rfl, fun h => ?_, fun h => ?_,
    ⟨_, exec_agingTick (s := s.countWindows) hop, State.deliverTick_aging _⟩,
    ⟨_, exec_agingTick hop, State.deliverTick_aging _⟩⟩
  · rw [exec_millisecond hop, completeMillisecond_of_before h]
  · rw [exec_millisecond hop, completeMillisecond_of_tick h, exec_agingTick (s := s.countWindows) hop]

/-! ### Reset (R183) -/

/-- Each of the three resets puts the part in reset, with every block at its reset values. -/
theorem exec_reset {c : Instr} {s : State}
    (h : c = .resetPin ∨ c = .powerUp ∨ (s.phase = .operating ∧ ∃ extra, c = .reset extra)) :
    ∃ cause sdo, exec c s = .next (s.enterReset cause sdo) ∧ cause ≠ .operating
      ∧ (c = .resetPin ∨ c = .powerUp → sdo = [])
      ∧ ∀ extra, c = .reset extra → sdo = s.portByte :: List.replicate extra.length 0xFF := by
  rcases h with rfl | rfl | ⟨hop, extra, rfl⟩
  · exact ⟨.pinReset, [], rfl, nofun, fun _ => rfl, nofun⟩
  · exact ⟨.powerUp, [], rfl, nofun, fun _ => rfl, nofun⟩
  · refine ⟨.transactionReset, s.portByte :: List.replicate extra.length 0xFF,
      congrArg Host.Outcome.next (transaction_of_operating hop _ _), nofun, ?_, ?_⟩
    · rintro (h | h) <;> cases h
    · rintro _ ⟨⟩; rfl

theorem reset_rules (k : RuleNo) : State.reset.rules[k] = Rule.cleared := Vector.getElem_replicate _

theorem reset_groups (g : GroupNo) : State.reset.groups[g] = Group.reset := Vector.getElem_replicate _

theorem reset_policy (n : SegNo) : State.reset.policy[n] = Policy.reset := Vector.getElem_replicate _

theorem reset_segs (n : SegNo) : State.reset.segs[n] = SegCtl.reset := Vector.getElem_replicate _

/-- Settles O5: the three resets, block by block, and their completion. -/
theorem resetReturnsEveryBlock : Obligations.ResetReturnsEveryBlock := by
  refine ⟨fun c s h => ?_, fun s => rfl⟩
  obtain ⟨cause, sdo, hexec, hcause, hpin, htransaction⟩ := exec_reset h
  exact ⟨_, hexec, hcause, rfl, hpin, htransaction, reset_records, assignableAddresses_toNat, rfl, reset_map, reset_rules,
    reset_groups, reset_slots, rfl, rfl, rfl, rfl, reset_policy, rfl, reset_segs, rfl⟩

end Sys2Proof.Machine
end

section
/-! PROOF. The check sequences (R172, R186, R188) and the SPI transactions (R168, R172, R173, R176): O6, O7, O8 and O11. -/

namespace Sys2Proof.Machine

/-! ### Check sequences, bit by bit -/

/-- One bit of a check sequence with polynomial p. -/
def crcShift {w : Nat} (p x : BitVec w) : BitVec w := if x.msb then (x <<< 1) ^^^ p else x <<< 1

/-- One data bit enters a check sequence with polynomial p. -/
def crcStep {w : Nat} (p x : BitVec w) (b : Bool) : BitVec w := if x.msb != b then (x <<< 1) ^^^ p else x <<< 1

/-- The first n bits of a vector, most significant first. -/
def topBits {w : Nat} : Nat → BitVec w → List Bool
  | 0, _ => []
  | n + 1, b => b.msb :: topBits n (b <<< 1)

theorem crcShift_xor {w : Nat} (p c b : BitVec w) : crcShift p (c ^^^ b) = crcStep p c b.msb ^^^ (b <<< 1) := by
  unfold crcShift crcStep
  rw [BitVec.msb_xor, BitVec.shiftLeft_xor_distrib, Bool.bne_eq_xor]
  cases c.msb ^^ b.msb with
  | false => rfl
  | true =>
    show c <<< 1 ^^^ b <<< 1 ^^^ p = c <<< 1 ^^^ p ^^^ b <<< 1
    rw [BitVec.xor_assoc, BitVec.xor_assoc, BitVec.xor_comm p]

/-- A vector that enters at the front is as its bits entering one by one. -/
theorem crcShift_iterate {w : Nat} (p : BitVec w) (n : Nat) (c b : BitVec w) :
    (crcShift p)^[n] (c ^^^ b) = (topBits n b).foldl (crcStep p) c ^^^ (b <<< n) := by
  induction n generalizing c b with
  | zero => rw [BitVec.shiftLeft_zero]; rfl
  | succ n ih =>
    rw [Function.iterate_succ_apply, crcShift_xor, ih, ← BitVec.shiftLeft_add, Nat.add_comm 1 n]
    rfl

theorem byteBits_eq_topBits (b : Byte) : byteBits b = topBits 8 b := by revert b; decide

theorem crc8_byte (c b : Byte) : crc8Shift^[8] (c ^^^ b) = (byteBits b).foldl (crcStep 0x07) c := by
  have h := crcShift_iterate (0x07 : Byte) 8 c b
  rw [BitVec.shiftLeft_eq_zero (by decide), BitVec.xor_zero] at h
  rw [byteBits_eq_topBits]
  exact h

theorem foldl_frameBits {α : Type} (f : α → Bool → α) (bytes : List Byte) (a : α) :
    (frameBits bytes).foldl f a = bytes.foldl (fun a b => (byteBits b).foldl f a) a := by
  rw [frameBits, List.foldl_flatMap]

theorem crc8_bits (bytes : List Byte) : crc8 bytes = (frameBits bytes).foldl (crcStep 0x07) 0x00 := by
  rw [foldl_frameBits, crc8]
  simp only [crc8_byte]

/-! ### SUBMIT (R172, R173) -/

theorem exec_submit {s : State} (h : s.phase = .operating) (input : List Byte) : exec (.submit input) s
    = .next ((s.withSdo (s.portByte :: List.replicate input.length 0x00)).judgeFrame input) :=
  congrArg Host.Outcome.next (transaction_of_operating h _ _)

theorem goodFrame_iff (input : List Byte) : goodFrame input = true ↔
    4 ≤ input.length ∧ (input.getD 2 0).toNat ≤ 24 ∧ input.length = (input.getD 2 0).toNat + 4
      ∧ input.getLast? = some (crc8 input.dropLast) := by
  simp only [goodFrame, Bool.and_eq_true, decide_eq_true_iff, beq_iff_eq, and_assoc]
  rfl

theorem judgeFrame_of_bad {s : State} {input : List Byte} (hne : input ≠ []) (h : goodFrame input = false) :
    s.judgeFrame input = s.raise .rejectCheck := by
  rw [State.judgeFrame, if_neg hne, if_pos h]

theorem judgeFrame_of_full {s : State} {input : List Byte} (hne : input ≠ []) (h : goodFrame input = true)
    (hc : s.port.credits = 0) : s.judgeFrame input = s.raise .rejectFull := by
  rw [State.judgeFrame, if_neg hne, if_neg (by simp [h]), if_pos hc]

theorem judgeFrame_of_good {s : State} {input : List Byte} (hne : input ≠ []) (h : goodFrame input = true)
    (hc : s.port.credits ≠ 0) : s.judgeFrame input = s.withPort { s.port with
      requests := s.port.requests ++ [requestOf input], credits := s.port.credits - 1 } := by
  rw [State.judgeFrame, if_neg hne, if_neg (by simp [h]), if_neg hc]

theorem judgeFrame_frame (s : State) (input : List Byte) : s.judgeFrame input = { s with port := (s.judgeFrame input).port } := by
  unfold State.judgeFrame
  split
  · rfl
  split
  · rfl
  split <;> rfl

theorem ne_nil_of_good {input : List Byte} (h : goodFrame input = true) : input ≠ [] := by
  rintro rfl
  cases h

/-- The payload of a good frame is what LENGTH counts. -/
theorem requestOf_good {input : List Byte} (h : input.length = (input.getD 2 0).toNat + 4) :
    requestOf input = ⟨input.getD 0 0, input.getD 1 0, (input.drop 3).take (input.getD 2 0).toNat, false⟩ := by
  rw [requestOf, List.dropLast_eq_take, List.length_drop, h]
  rfl

/-- Settles O6: the CRC-8 by the bits of its bytes, the frame by the branches of its judgement. -/
theorem submitJudgesFrame : Obligations.SubmitJudgesFrame := by
  refine ⟨crc8_bits, fun s input hop => ⟨_, exec_submit hop input, judgeFrame_frame _ input, ?_, fun hne hbad => ?_,
    fun hgood hc => ?_, fun hgood hc => ?_⟩⟩
  · rintro rfl; rfl
  · have hbad : goodFrame input = false := Bool.eq_false_iff.mpr fun h => hbad ((goodFrame_iff input).mp h)
    rw [judgeFrame_of_bad hne hbad]; rfl
  · have hgood := (goodFrame_iff input).mpr hgood
    exact congrArg State.port (judgeFrame_of_full (s := s.withSdo (s.portByte :: _)) (ne_nil_of_good hgood) hgood hc)
  · rw [← requestOf_good hgood.2.2.1]
    have hgood := (goodFrame_iff input).mpr hgood
    exact congrArg State.port (judgeFrame_of_good (s := s.withSdo (s.portByte :: _)) (ne_nil_of_good hgood) hgood hc)

/-! ### One altered byte (R172) -/

theorem crcShift_getLsbD_zero {w : Nat} {p : BitVec w} (hp : p.getLsbD 0 = true) (x : BitVec w) :
    (crcShift p x).getLsbD 0 = x.msb := by
  unfold crcShift
  cases x.msb <;> simp [hp]

/-- A vector is known by its first bit and by its bits after the first. -/
theorem eq_of_msb_of_shiftLeft {w : Nat} {x y : BitVec w} (hmsb : x.msb = y.msb) (h : x <<< 1 = y <<< 1) : x = y := by
  refine BitVec.eq_of_getMsbD_eq fun i hi => ?_
  cases i with
  | zero => exact hmsb
  | succ i =>
    have hbit := congrArg (fun v => BitVec.getMsbD v i) h
    simpa only [BitVec.getMsbD_shiftLeft] using hbit

theorem crcShift_injective {w : Nat} {p : BitVec w} (hp : p.getLsbD 0 = true) : Function.Injective (crcShift p) := by
  intro x y h
  have hmsb : x.msb = y.msb := by rw [← crcShift_getLsbD_zero hp x, h, crcShift_getLsbD_zero hp]
  refine eq_of_msb_of_shiftLeft hmsb ?_
  unfold crcShift at h
  rw [hmsb] at h
  split at h
  · exact BitVec.xor_left_inj p |>.mp h
  · exact h

theorem crc8Shift_injective : Function.Injective crc8Shift := crcShift_injective (p := (0x07 : Byte)) rfl

/-- One byte enters the CRC-8. -/
def crc8Enter (c b : Byte) : Byte := crc8Shift^[8] (c ^^^ b)

theorem crc8Enter_injective_value {c b b' : Byte} (h : crc8Enter c b = crc8Enter c b') : b = b' :=
  (BitVec.xor_right_inj c).mp (crc8Shift_injective.iterate 8 h)

theorem crc8Enter_injective_start {c c' b : Byte} (h : crc8Enter c b = crc8Enter c' b) : c = c' :=
  (BitVec.xor_left_inj b).mp (crc8Shift_injective.iterate 8 h)

theorem foldl_crc8Enter_injective (bytes : List Byte) {c c' : Byte}
    (h : bytes.foldl crc8Enter c = bytes.foldl crc8Enter c') : c = c' := by
  induction bytes generalizing c c' with
  | nil => exact h
  | cons b bytes ih => exact crc8Enter_injective_start (ih h)

/-- Another byte in one place gives another CRC-8. -/
theorem crc8_set_ne {bytes : List Byte} {i : Nat} {b : Byte} (hi : i < bytes.length) (hb : b ≠ bytes[i]) :
    crc8 (bytes.set i b) ≠ crc8 bytes := by
  intro h
  have hfold (l : List Byte) : crc8 l = l.foldl crc8Enter 0x00 := rfl
  have hsplit : bytes = bytes.take i ++ bytes[i] :: bytes.drop (i + 1) := by
    rw [List.cons_getElem_drop_succ, List.take_append_drop]
  rw [hfold, hfold, List.set_eq_take_append_cons_drop, if_pos hi] at h
  conv at h => rhs; rw [hsplit]
  rw [List.foldl_append, List.foldl_append, List.foldl_cons, List.foldl_cons] at h
  exact hb (crc8Enter_injective_value (foldl_crc8Enter_injective _ h))

/-- A frame with one byte altered is not good: in its last byte or before it. -/
theorem goodFrame_set_eq_false {body : List Byte} {i : Nat} {b : Byte} (hi : i < (body ++ [crc8 body]).length)
    (hb : b ≠ (body ++ [crc8 body])[i]) : goodFrame ((body ++ [crc8 body]).set i b) = false := by
  refine Bool.eq_false_iff.mpr fun hgood => ?_
  obtain ⟨_, _, _, hcheck⟩ := (goodFrame_iff _).mp hgood
  by_cases hbody : i < body.length
  · rw [List.set_append_left _ _ hbody, List.getLast?_concat, List.dropLast_concat] at hcheck
    rw [List.getElem_append_left hbody] at hb
    exact crc8_set_ne hbody hb (Option.some.inj hcheck).symm
  · have hlast : i = body.length := by simp at hi; omega
    subst hlast
    rw [List.set_append_right _ _ le_rfl, Nat.sub_self, List.set_cons_zero, List.getLast?_concat,
      List.dropLast_concat] at hcheck
    rw [List.getElem_concat_length rfl] at hb
    exact hb (Option.some.inj hcheck)

/-- Settles O7: the altered frame is not good. -/
theorem alteredByteIsRejected : Obligations.AlteredByteIsRejected := by
  intro s tag command payload i b hop _ body frame h hb
  have hne : frame.set i b ≠ [] := fun hnil => by simp [frame] at hnil
  refine ⟨_, exec_submit hop _, ?_⟩
  rw [judgeFrame_of_bad hne (goodFrame_set_eq_false h hb)]
  rfl

/-! ### FETCH NEXT (R176) -/

theorem exec_fetchNext {s : State} (h : s.phase = .operating) (clocked : Nat) : exec (.fetchNext clocked) s = .next
    ((s.withSdo (s.portByte :: (s.port.nextBlock ++ List.replicate clocked 0xFF).take clocked)).withPort
      (if s.port.fetchRemoves clocked then s.port.removeResponse else s.port)) := by
  rw [← shiftedOut_eq_take]
  refine (congrArg Host.Outcome.next (transaction_of_operating h _ _)).trans (congrArg Host.Outcome.next ?_)
  show (if s.port.fetchRemoves clocked = true then _ else _) = _
  split <;> rfl

/-- Settles O8: the queue is empty or has a head. -/
theorem fetchNextReturnsOldest : Obligations.FetchNextReturnsOldest := by
  refine ⟨fun st => by cases st <;> rfl, fun s clocked hop => ⟨fun hempty => ?_, fun r rest hr => ?_⟩⟩
  · rw [exec_fetchNext hop, Port.nextBlock, Port.fetchRemoves, hempty]
    rfl
  · rw [exec_fetchNext hop, Port.nextBlock, Port.fetchRemoves, Port.removeResponse, hr]
    simp only [decide_eq_true_iff]
    rfl

/-! ### Which transaction, and none (R168) -/

/-- The codes of the transactions. -/
def transactionCodes : List Byte := [0x51, 0x52, 0x53, 0x54, 0x55, 0x56, 0x5F]

theorem transactionNamed_of_other {b : Byte} (h : b ∉ transactionCodes) : transactionNamed b = none := by
  simp only [transactionCodes, List.mem_cons, List.not_mem_nil, or_false, not_or] at h
  obtain ⟨h1, h2, h3, h4, h5, h6, h7⟩ := h
  rw [transactionNamed, if_neg h1, if_neg h2, if_neg h3, if_neg h4, if_neg h5, if_neg h6, if_neg h7]

theorem unknownCode_of_other {b : Byte} (rest : List Byte) (h : b ∉ transactionCodes) : unknownCode (b :: rest) = true := by
  rw [unknownCode, transactionNamed_of_other h]
  rfl

/-- A transaction while the part is held in reset is not received. -/
theorem transaction_of_reset {s : State} (h : s.phase ≠ .operating) (out : List Byte) (act : State → State) :
    s.transaction out act = s.withSdo [] := if_neg h

theorem unknownTransaction_of_reset {s : State} (h : s.phase ≠ .operating) {bytes : List Byte} (hb : unknownCode bytes = true) :
    exec (.unknownTransaction bytes) s = .next (s.withSdo []) := by
  refine congrArg Host.Outcome.next ?_
  rw [if_pos hb, if_neg h]

theorem unknownTransaction_of_operating {s : State} (h : s.phase = .operating) {bytes : List Byte}
    (hb : unknownCode bytes = true) : exec (.unknownTransaction bytes) s = .next (s.withSdo (s.unknownOut bytes)) := by
  refine congrArg Host.Outcome.next ?_
  rw [if_pos hb, if_pos h]

/-- Settles O11: the code names a transaction or none, and in reset none is received. -/
theorem unreceivedTransactions : Obligations.UnreceivedTransactions := by
  refine ⟨fun input => ⟨rfl, rfl, rfl, rfl, rfl, rfl, rfl, rfl, fun b hb => ?_⟩, fun s => ⟨fun hop => ?_,
    fun hop b rest hb => ?_, fun hreset input clocked c hc => ?_⟩⟩
  · rw [decodeTransaction, transactionNamed_of_other hb]
  · exact unknownTransaction_of_operating hop rfl
  · exact unknownTransaction_of_operating hop (unknownCode_of_other rest hb)
  · have hzero : unknownCode (0x00 :: input) = true := unknownCode_of_other input (by decide)
    simp only [List.mem_cons, List.not_mem_nil, or_false] at hc
    rcases hc with rfl | rfl | rfl | rfl | rfl | rfl | rfl | rfl | rfl
    · exact congrArg Host.Outcome.next (transaction_of_reset hreset _ _)
    · exact congrArg Host.Outcome.next (transaction_of_reset hreset _ _)
    · exact congrArg Host.Outcome.next (transaction_of_reset hreset _ _)
    · exact congrArg Host.Outcome.next (transaction_of_reset hreset _ _)
    · exact congrArg Host.Outcome.next (transaction_of_reset hreset _ _)
    · exact congrArg Host.Outcome.next (transaction_of_reset hreset _ _)
    · exact congrArg Host.Outcome.next (transaction_of_reset hreset _ _)
    · exact unknownTransaction_of_reset hreset rfl
    · exact unknownTransaction_of_reset hreset hzero

end Sys2Proof.Machine
end

section
/-! PROOF. The port byte, ATTN#, the hush lines and the status block (R147, R169, R178, R182): O12. -/

namespace Sys2Proof.Machine

/-! ### The fields of packed bytes -/

theorem portFields (a b : BitVec 3) (c d : BitVec 1) :
    (a ++ b ++ c ++ d : BitVec 8).extractLsb' 5 3 = a ∧ (a ++ b ++ c ++ d : BitVec 8).extractLsb' 2 3 = b
      ∧ (a ++ b ++ c ++ d : BitVec 8).getLsbD 1 = c.getLsbD 0 ∧ (a ++ b ++ c ++ d : BitVec 8).getLsbD 0 = d.getLsbD 0 := by
  revert a b c d; decide

theorem segmentFields (c : SegNo → BitVec 2) (n : SegNo) :
    (c 3 ++ c 2 ++ c 1 ++ c 0 : BitVec 8).extractLsb' (2 * n.val) 2 = c n := by
  have h : ∀ a b d e : BitVec 2, (e ++ d ++ b ++ a : BitVec 8).extractLsb' 0 2 = a
      ∧ (e ++ d ++ b ++ a : BitVec 8).extractLsb' 2 2 = b ∧ (e ++ d ++ b ++ a : BitVec 8).extractLsb' 4 2 = d
      ∧ (e ++ d ++ b ++ a : BitVec 8).extractLsb' 6 2 = e := by decide
  obtain ⟨h0, h1, h2, h3⟩ := h (c 0) (c 1) (c 2) (c 3)
  fin_cases n
  · exact h0
  · exact h1
  · exact h2
  · exact h3

theorem sweepFields (a c : BitVec 1) (b : BitVec 2) :
    ((0 : BitVec 4) ++ a ++ b ++ c : BitVec 8).getLsbD 0 = c.getLsbD 0
      ∧ ((0 : BitVec 4) ++ a ++ b ++ c : BitVec 8).extractLsb' 1 2 = b
      ∧ ((0 : BitVec 4) ++ a ++ b ++ c : BitVec 8).getLsbD 3 = a.getLsbD 0
      ∧ ((0 : BitVec 4) ++ a ++ b ++ c : BitVec 8).extractLsb' 4 4 = 0 := by
  revert a b c; decide

theorem attnFields (a : BitVec 1) (b : BitVec 3) :
    (a ++ (0 : BitVec 4) ++ b : BitVec 8).extractLsb' 0 3 = b
      ∧ (a ++ (0 : BitVec 4) ++ b : BitVec 8).getLsbD 7 = a.getLsbD 0
      ∧ (a ++ (0 : BitVec 4) ++ b : BitVec 8).extractLsb' 3 4 = 0 := by
  revert a b; decide

theorem ofBool_bit (b : Bool) : (BitVec.ofBool b).getLsbD 0 = b := by cases b <;> rfl

/-- The two bytes of a number read high byte first. -/
theorem bytes16_toNat {n : Nat} (h : n < 65536) :
    ((BitVec.ofNat 16 n).extractLsb' 8 8).toNat * 256 + ((BitVec.ofNat 16 n).extractLsb' 0 8).toNat = n := by
  simp only [BitVec.extractLsb'_toNat, BitVec.toNat_ofNat, Nat.shiftRight_eq_div_pow]
  omega

theorem numByte_toNat {n : Nat} (h : n < 256) : (numByte n).toNat = n := Nat.mod_eq_of_lt h

/-! ### The obligation -/

theorem busyClaims_le (s : State) : s.busyClaims ≤ 8 := by
  rw [State.busyClaims]
  exact List.countP_le_length.trans (by simp)

theorem attnLow_iff (s : State) : s.attnLow = true ↔
    (s.port.enables.getLsbD 0 = true ∧ s.port.responses ≠ [])
      ∨ (s.port.enables.getLsbD 1 = true ∧ 0 < s.engine.attnCount)
      ∨ (s.port.enables.getLsbD 2 = true ∧ s.port.flags ≠ 0) := by
  have hready : s.responseReady = true ↔ s.port.responses ≠ [] := by
    rw [State.responseReady, Bool.not_eq_true', List.isEmpty_eq_false_iff]
  have hflags : s.flagHolds = true ↔ s.port.flags ≠ 0 := bne_iff_ne
  rw [State.attnLow, Bool.or_eq_true, Bool.or_eq_true, Bool.and_eq_true, Bool.and_eq_true, Bool.and_eq_true, hready, hflags,
    State.attentionHolds, decide_eq_true_iff, or_assoc]

theorem modeCode_toNat (m : Mode) :
    m.code.toNat = match m with | .halted => 0 | .running => 1 | .flushing => 2 := by cases m <;> rfl

theorem segStateCode_toNat (x : SegState) :
    x.code.toNat = match x with | .disabled => 0 | .listening => 1 | .hushed => 2 | .fault => 3 := by cases x <;> rfl

theorem nextRecordByte_of_visit {e : Engine} {i : RecNo} (hs : e.sweeping = true) (hn : e.sweepNext = .visit i) :
    e.nextRecordByte = numByte i.val := by
  rw [Engine.nextRecordByte, if_pos hs, hn]; rfl

theorem nextRecordByte_of_holdList {e : Engine} (hs : e.sweeping = true) (hn : e.sweepNext = .holdList) :
    e.nextRecordByte = 0 := by
  rw [Engine.nextRecordByte, if_pos hs, hn]; rfl

theorem nextRecordByte_of_flush {e : Engine} (hs : e.sweeping = false) (hf : e.flushing = true) :
    e.nextRecordByte = numByte e.flushNext.val := by
  rw [Engine.nextRecordByte, hs, if_neg Bool.false_ne_true, if_pos hf]

theorem nextRecordByte_of_neither {e : Engine} (hs : e.sweeping = false) (hf : e.flushing = false) :
    e.nextRecordByte = 0 := by
  rw [Engine.nextRecordByte, hs, hf, if_neg Bool.false_ne_true, if_neg Bool.false_ne_true]

/-- Settles O12: the fields of each packed byte. -/
theorem portByteAttnAndStatusBlock : Obligations.PortByteAttnAndStatusBlock := by
  intro s hcredits hattn howed hfree hhold
  have hsum : s.port.credits + s.port.requests.length + s.port.responses.length = 4 := hcredits
  obtain ⟨hfree3, hready3, hflag, hattention⟩ := portFields (BitVec.ofNat 3 s.port.credits)
    (BitVec.ofNat 3 s.port.responses.length) (BitVec.ofBool s.flagHolds) (BitVec.ofBool s.attentionHolds)
  obtain ⟨hsweeping, howedField, hvisit, hzero⟩ := sweepFields (BitVec.ofBool (s.engine.sweeping && s.engine.sweepNext.isVisit))
    (BitVec.ofBool s.engine.sweeping) (BitVec.ofNat 2 s.engine.owed)
  obtain ⟨henables, hattnBit, hattnZero⟩ := attnFields (BitVec.ofBool s.attnLow) s.port.enables
  have hrecord (i : RecNo) : (numByte i.val).toNat = i.val := numByte_toNat i.isLt
  refine ⟨?_, ?_, ?_, ?_, attnLow_iff s, fun n => beq_iff_eq, _, _, _, _, _, _, _, _, _, _, _, _, _, _, rfl,
    modeCode_toNat _, numByte_toNat (by omega), numByte_toNat (by omega), numByte_toNat (by omega), bytes16_toNat (by omega),
    numByte_toNat (by omega), numByte_toNat (by omega), ?_, fun n => ?_, ?_, ?_, ?_, hzero, rfl, henables, ?_, hattnZero,
    fun i hs hn => ?_, fun hs hn => nextRecordByte_of_holdList hs hn, fun hs hf => ?_,
    fun hs hf => nextRecordByte_of_neither hs hf⟩
  · rw [State.portByte, hfree3, BitVec.toNat_ofNat, Nat.mod_eq_of_lt (by omega)]
  · rw [State.portByte, hready3, BitVec.toNat_ofNat, Nat.mod_eq_of_lt (by omega)]
  · rw [State.portByte, hflag, ofBool_bit]; exact bne_iff_ne
  · rw [State.portByte, hattention, ofBool_bit]; exact decide_eq_true_iff
  · rw [numByte_toNat ((busyClaims_le s).trans_lt (by decide)), busyClaims_eq]
  · exact (congrArg BitVec.toNat (segmentFields (fun m => s.segs[m].state.code) n)).trans (segStateCode_toNat _)
  · rw [Engine.sweepByte, hsweeping, ofBool_bit]
  · rw [Engine.sweepByte, howedField, BitVec.toNat_ofNat, Nat.mod_eq_of_lt (by omega)]
  · rw [Engine.sweepByte, hvisit, ofBool_bit, isVisit_eq]
  · rw [hattnBit, ofBool_bit]
  · rw [nextRecordByte_of_visit hs hn, hrecord]
  · rw [nextRecordByte_of_flush hs hf, hrecord]

end Sys2Proof.Machine
end

section
/-! PROOF. The events of the segments (R152 to R165), the expiry of claims (R58, R91, R109) and the arbiter (R55 to R58): O43,
O45, O48, O52 and O60. -/

namespace Sys2Proof.Machine

/-! ### Stuck lines (R163 to R165) -/

theorem segFault_bit (n : SegNo) : BitVec.twoPow 8 (StickyFlag.segFault n).bit = 0x10 <<< n.val := by
  revert n; decide

theorem withSeg_self (s : State) (n : SegNo) : s.withSeg n s.segs[n] = s := by
  rw [State.withSeg, Fin.getElem_fin, Vector.set_getElem_self]

/-- Settles O43: entry to FAULT, and the grant of its notice. -/
theorem stuckLineFaultsSegment : Obligations.StuckLineFaultsSegment := by
  refine ⟨fun s n hup hmonitor => ?_, fun s n h => ?_⟩
  · refine congrArg Host.Outcome.next ((if_pos ⟨SegCtl.enabled_iff.mpr hup, hmonitor⟩).trans ?_)
    rw [← segFault_bit]
    rfl
  · show execFaultNotice n s = _
    rw [execFaultNotice, h]
    exact congrArg Host.Outcome.next (if_pos rfl)

/-! ### Expiries (R58, R91, R109) -/

theorem dueWith_of_not_due {s : State} {k : SlotNo} (h : k ∉ s.due) : s.dueWith k =
    s.due.filter (fun j => !s.ranOut.contains j)
      ++ (List.finRange 8).filter fun j => j == k || (s.due.contains j && s.ranOut.contains j) := by
  rw [State.dueWith, slotsWhere]
  congr 1
  refine List.filter_congr fun j hj => ?_
  have hne : (j != k) = true := bne_iff_ne.mpr fun hjk => h (hjk ▸ hj)
  rw [hne, Bool.true_and]

/-- Settles O45: the window that runs out, and the grant of the oldest expiry. -/
theorem claimsExpire : Obligations.ClaimsExpire := by
  refine ⟨fun s k c hc hphase hwindow hdue => ?_, fun s k h => ⟨?_, ?_⟩⟩
  · refine congrArg Host.Outcome.next ?_
    rw [State.runOutWindow, hc]
    simp only
    rw [if_pos ⟨hphase, hwindow⟩, dueWith_of_not_due hdue]
    rfl
  · obtain ⟨rest, hrest⟩ := granted_expiry h
    rw [hrest]; rfl
  · rw [pointed_eq]
    show execClaimExpiry s = _
    rw [execClaimExpiry, h]

/-! ### The receiver and the line monitor (R152, R163) -/

/-- Settles O48: each event where it has its effect, and where it has none. -/
theorem receiverFollowsLine : Obligations.ReceiverFollowsLine := by
  intro s n
  have hstay {x : Instr} {d : SegCtl} (hx : exec x s = .next (s.withSeg n d)) (hd : d = s.segs[n]) : exec x s = .next s := by
    rw [hx, hd, withSeg_self]
  refine ⟨fun hup hr => ?_, fun hup hr ht => ⟨?_, ?_⟩, fun hup hr => ?_, fun x hx hidle => ?_⟩
  · exact congrArg (fun d => Host.Outcome.next (s.withSeg n d)) (if_pos ⟨SegCtl.enabled_iff.mpr hup, hr⟩)
  · exact congrArg (fun d => Host.Outcome.next (s.withSeg n d)) (if_pos ⟨SegCtl.enabled_iff.mpr hup, hr, ht⟩)
  · exact congrArg (fun d => Host.Outcome.next (s.withSeg n d)) (if_pos ⟨SegCtl.enabled_iff.mpr hup, hr, ht⟩)
  · exact congrArg (fun d => Host.Outcome.next (s.withSeg n d)) (if_pos ⟨SegCtl.enabled_iff.mpr hup, hr⟩)
  · have hoff (r : RxState) (hr : r ≠ .gap) : ¬(s.segs[n].enabled = true ∧ s.segs[n].receiver = r) := by
      rintro ⟨hen, hrec⟩
      rcases hidle with hdown | ⟨hgap, _⟩
      · exact hdown (SegCtl.enabled_iff.mp hen)
      · exact hr (hrec.symm.trans hgap)
    have hgap : ¬(s.segs[n].enabled = true ∧ s.segs[n].receiver = .gap ∧ s.segs[n].transmitter ≠ .sending) := by
      rintro ⟨hen, _, ht⟩
      rcases hidle with hdown | ⟨_, hsending⟩
      · exact hdown (SegCtl.enabled_iff.mp hen)
      · exact ht hsending
    simp only [List.mem_cons, List.not_mem_nil, or_false] at hx
    rcases hx with rfl | rfl | rfl | rfl
    · exact hstay rfl (if_neg (hoff .ready nofun))
    · exact hstay rfl (if_neg hgap)
    · exact hstay rfl (if_neg hgap)
    · exact hstay rfl (if_neg (hoff .receiving nofun))

/-! ### The transmitter (R158 to R161) -/

theorem outcome_eq (m : Message) (sent : Bool) :
    m.outcome sent = match m with | .offer _ nonce _ => [Notice.mk sent nonce] | _ => [] := by
  cases m <;> rfl

theorem message_codes (m : Message) : (m.kindCode, m.body) = match m with
    | .offer id nonce a => (0x11, idBytes id ++ bytes16 nonce ++ [a])
    | .confirm id a => (0x12, idBytes id ++ [a])
    | .refuse id reason hint => (0x13, idBytes id ++ [match reason with
        | .halted => 0x01 | .busy => 0x02 | .denied => 0x03 | .notAdmitted => 0x04 | .boundElsewhere => 0x05
        | .claimsFull => 0x06 | .tableFull => 0x07 | .noAddress => 0x08 | .offerLimit => 0x09 | .staleOffer => 0x0A, hint])
    | .revoke id a => (0x14, idBytes id ++ [a])
    | .probe id a => (0x15, idBytes id ++ [a])
    | .reply requester question result => (0x16, idBytes requester
        ++ (match question with
          | .byId target => 0x06 :: idBytes target
          | .byAddress target => [0x07, target]
          | .byGroup g start => [0x08, g, start])
        ++ match result with
          | .unknown => [0x00]
          | .address a => [0x01, a]
          | .id i => 0x01 :: idBytes i
          | .group addresses truncated =>
            [if truncated then 0x03 else 0x01, BitVec.ofNat 8 addresses.length] ++ addresses)
    | .reannounce => (0x17, []) := by
  cases m with
  | refuse id reason hint => cases reason <;> rfl
  | reply requester question result =>
    cases result with
    | group addresses truncated => cases question <;> cases truncated <;> rfl
    | unknown => cases question <;> rfl
    | address a => cases question <;> rfl
    | id i => cases question <;> rfl
  | offer id nonce a => rfl
  | confirm id a => rfl
  | revoke id a => rfl
  | probe id a => rfl
  | reannounce => rfl

/-- Settles O52: the codes of the messages, and each event of the transmitter. -/
theorem transmitterSendsHead : Obligations.TransmitterSendsHead := by
  refine ⟨fun m => (message_codes m).trans ?_, fun m => ?_, fun s n => ⟨fun k hk => ?_, fun e rest hup htx =>
    ⟨fun hidle hr => ?_, fun hsending => ?_, fun active hsending => ⟨fun hatt => ?_, fun hatt => ?_⟩⟩⟩⟩
  · rfl
  · cases m <;> rfl
  · refine congrArg (fun d => Host.Outcome.next (s.withSeg n d)) ?_
    rw [SegCtl.backoffExpiry, hk]
  · refine congrArg (fun d => Host.Outcome.next (s.withSeg n d)) ?_
    rw [SegCtl.attemptStart, htx]
    exact if_pos ⟨SegCtl.enabled_iff.mpr hup, hidle, hr⟩
  · refine congrArg (fun d => Host.Outcome.next (s.withSeg n d)) ?_
    rw [SegCtl.transmitComplete, htx]
    refine (if_pos ⟨SegCtl.enabled_iff.mpr hup, hsending⟩).trans ?_
    rw [SegCtl.finish, outcome_eq] <;> rfl
  · refine congrArg (fun d => Host.Outcome.next (s.withSeg n d)) ?_
    rw [SegCtl.collision, htx]
    refine (if_pos ⟨SegCtl.enabled_iff.mpr hup, hsending⟩).trans ((if_neg (Nat.not_le.mpr hatt)).trans ?_)
    rfl
  · refine congrArg (fun d => Host.Outcome.next (s.withSeg n d)) ?_
    rw [SegCtl.collision, htx]
    refine (if_pos ⟨SegCtl.enabled_iff.mpr hup, hsending⟩).trans ((if_pos hatt).trans ?_)
    rw [SegCtl.finish, outcome_eq] <;> rfl

/-! ### The arbiter (R55 to R58) -/

theorem hostWork_eq (s : State) : s.hostWork = s.port.requests.head?.bind fun r =>
    if r.taken = true ∨ (r.command = 0x31 ∧ s.engine.mode = .running ∧ s.engine.sweeping = true) then none
    else some (.request r) := by
  rw [State.hostWork]
  cases s.port.requests with
  | nil => rfl
  | cons r rest =>
    show (if r.taken = true then none else if _ then none else some (Work.request r)) = if _ then none else _
    by_cases htaken : r.taken = true
    · rw [if_pos htaken, if_pos (.inl htaken)]
    · rw [if_neg htaken]
      exact if_congr (or_iff_right htaken).symm rfl rfl

theorem segWork_eq (s : State) (n : SegNo) : s.segWork n =
    if s.segs[n].faultNotice = true then some (.faultNotice n)
    else (s.segs[n].notices.head?.map (.notice n)).or (s.segs[n].rx.head?.map (.frame n)) := by
  rw [State.segWork]
  cases s.segs[n].notices with
  | nil => cases s.segs[n].rx <;> rfl
  | cons x rest => rfl

theorem timerWork_eq (s : State) : s.timerWork = (s.due.head?.map .expiry).or
    (if s.engine.sweeping = true then some (.sweepStep s.engine.sweepNext)
      else if s.engine.flushing = true then some (.flushStep s.engine.flushNext) else none) := by
  rw [State.timerWork]
  cases s.due <;> rfl

/-- The six requesters in their order. -/
def requesterRing : List Requester := [.host, .seg 0, .seg 1, .seg 2, .seg 3, .timer]

/-- The ring is searched from the requester after the one named. -/
theorem ringAfter_eq (q : Requester) : ringAfter q =
    requesterRing.drop (requesterRing.idxOf q + 1) ++ requesterRing.take (requesterRing.idxOf q + 1) := by
  cases q with
  | host => rfl
  | timer => rfl
  | seg n => fin_cases n <;> rfl

theorem serve_of_none {s : State} (h : s.granted = none) (code : Byte) (length : Nat)
    (run : List Byte → State → State × Answer) : s.serve code length run = s := by
  rw [State.serve, h]

theorem onFrame_of_none {s : State} (h : s.granted = none) (n : SegNo)
    (run : Address → FieldMessage → State → Option State) : s.onFrame n run = s := by
  rw [State.onFrame, h]

/-- The commands by which a request is served, of one row each. -/
theorem exec_of_none {s : State} (h : s.granted = none) (n : SegNo) : ∀ c ∈
    ([.badCommand, .readRecord, .findId, .findAddress, .bindStatic, .addDeny, .editRecord, .retireRecord,
      .collectAttention, .reserveAddress, .freeReservation, .readAddress, .readList, .setModeRun, .setModeHalt,
      .flushDynamic, .configure, .readConfig, .writeRule, .readRule, .writeGroup, .readGroup, .readClaim,
      .segmentControl, .readSegment, .announce n, .accept n, .decline n, .heartbeat n, .release n, .resolveId n,
      .resolveAddress n, .resolveGroup n, .faultNotice n, .transmitNotice n, .dropNotice n, .claimExpiry,
      .holdListStep, .holdEntryExpiry, .sweepVisit, .leaseRunOut, .staleWindowRunOut, .flushStep] : List Instr),
    exec c s = .next s := by
  have hserve (code : Byte) (length : Nat) (run : List Byte → State → State × Answer) :
      (Host.Outcome.next (s.serve code length run) : Host.Outcome State Fault Refusal) = .next s :=
    congrArg Host.Outcome.next (serve_of_none h code length run)
  have hframe (run : Address → FieldMessage → State → Option State) :
      (Host.Outcome.next (s.onFrame n run) : Host.Outcome State Fault Refusal) = .next s :=
    congrArg Host.Outcome.next (onFrame_of_none h n run)
  simp only [List.forall_mem_cons]
  refine ⟨?_, hserve _ _ _, hserve _ _ _, hserve _ _ _, hserve _ _ _, hserve _ _ _, hserve _ _ _, hserve _ _ _,
    hserve _ _ _, hserve _ _ _, hserve _ _ _, hserve _ _ _, hserve _ _ _, ?_, ?_,
    ?_, hserve _ _ _, hserve _ _ _, hserve _ _ _, hserve _ _ _, hserve _ _ _, hserve _ _ _, hserve _ _ _,
    hserve _ _ _, hserve _ _ _, hframe _, hframe _, hframe _, hframe _, hframe _, hframe _,
    hframe _, hframe _, ?_, ?_, ?_, ?_, ?_, ?_, ?_, ?_, ?_, ?_, nofun⟩
  · show execBadCommand s = _; rw [execBadCommand, h]
  · show execSetModeRun s = _; rw [execSetModeRun, serve_of_none h, ite_self]
  · show execSetModeHalt s = _; rw [execSetModeHalt, serve_of_none h, ite_self]
  · show execFlushDynamic s = _; rw [execFlushDynamic, h]
  · show execFaultNotice n s = _; rw [execFaultNotice, h]
  · show execTransmitNotice n s = _; rw [execTransmitNotice, h]
  · show execDropNotice n s = _; rw [execDropNotice, h]
  · show execClaimExpiry s = _; rw [execClaimExpiry, h]
  · show execHoldListStep s = _; rw [execHoldListStep, h]
  · show execHoldEntryExpiry s = _; rw [execHoldEntryExpiry, h]
  · show execSweepVisit s = _; rw [execSweepVisit, h]
  · show execLeaseRunOut s = _; rw [execLeaseRunOut, h]
  · show execStaleWindowRunOut s = _; rw [execStaleWindowRunOut, h]
  · show execFlushStep s = _; rw [execFlushStep, h]

/-- Settles O60: the ring from the pointer on, what each requester presents, and a grant to none. -/
theorem arbiterGrantsInRing : Obligations.ArbiterGrantsInRing := by
  intro s ring place work
  refine ⟨?_, fun h n => exec_of_none h n⟩
  have hwork : s.presents = work := funext fun q => by
    cases q with
    | host => exact hostWork_eq s
    | seg n => exact segWork_eq s n
    | timer => exact timerWork_eq s
  rw [State.granted, ringAfter_eq, hwork]
  rfl

end Sys2Proof.Machine
end

section
/-! PROOF. Transmit notices (R93, R94) and the visits of a sweep (R118 to R122): O44 and O47. -/

namespace Sys2Proof.Machine

/-! ### The claim that is meant -/

/-- Over an ascending list, the first value found is that of the least element that gives one. -/
theorem findSome?_of_least {α β : Type} [LinearOrder α] {l : List α} (hl : l.Pairwise (· < ·)) {f : α → Option β} {k : α} {b : β}
    (hk : k ∈ l) (hf : f k = some b) (hleast : ∀ j, j < k → f j = none) : l.findSome? f = some b := by
  induction l with
  | nil => cases hk
  | cons x xs ih =>
    obtain ⟨hx, hxs⟩ := List.pairwise_cons.mp hl
    rcases List.mem_cons.mp hk with rfl | hk
    · exact List.findSome?_cons_of_isSome (by rw [hf]; rfl) |>.trans hf
    · rw [List.findSome?_cons_of_isNone (by rw [hleast x (hx k hk)]; rfl)]
      exact ih hxs hk

theorem findClaim_of_least {s : State} {p : Claim → Bool} {k : SlotNo} {c : Claim} (hc : s.slots[k] = some c) (hp : p c = true)
    (hleast : ∀ j : SlotNo, j < k → ∀ x, s.slots[j] = some x → p x = false) : s.findClaim p = some (k, c) := by
  refine findSome?_of_least (List.pairwise_lt_finRange 8) (List.mem_finRange k) ?_ fun j hj => ?_
  · rw [hc, Option.filter_some, hp]; rfl
  · cases hx : s.slots[j] with
    | none => rfl
    | some x => rw [Option.filter_some, hleast j hj x hx]; rfl

theorem findClaim_of_none {s : State} {p : Claim → Bool} (h : ∀ (k : SlotNo) c, s.slots[k] = some c → p c = false) :
    s.findClaim p = none := by
  refine List.findSome?_eq_none_iff.mpr fun k _ => ?_
  cases hc : s.slots[k] with
  | none => rfl
  | some c => rw [Option.filter_some, h k c hc]; rfl

/-! ### Transmit notices (R93, R94) -/

theorem holdsCopy_iff {c : SegCtl} {nonce : BitVec 16} : c.holdsCopy nonce = true ↔
    (∃ e ∈ c.tx, e.message.offerNonce = some nonce) ∨ ∃ x ∈ c.notices, x.nonce = nonce := by
  simp only [SegCtl.holdsCopy, Bool.or_eq_true, List.any_eq_true, beq_iff_eq]

theorem transmitNotice_of_granted {s : State} {n : SegNo} {nonce : BitVec 16} (h : s.granted = some (.notice n ⟨true, nonce⟩)) :
    exec (.transmitNotice n) s = .next ((s.takeNotice n).noteSent nonce) := by
  show execTransmitNotice n s = _
  rw [execTransmitNotice, h]
  exact congrArg Host.Outcome.next (if_pos ⟨rfl, rfl⟩)

theorem dropNotice_of_granted {s : State} {n : SegNo} {nonce : BitVec 16} (h : s.granted = some (.notice n ⟨false, nonce⟩)) :
    exec (.dropNotice n) s = .next ((s.takeNotice n).noteDropped n nonce) := by
  show execDropNotice n s = _
  rw [execDropNotice, h]
  exact congrArg Host.Outcome.next (if_pos ⟨rfl, rfl⟩)

theorem noteDropped_of_found {s : State} {n : SegNo} {nonce : BitVec 16} {k : SlotNo} {c : Claim}
    (h : (s.findClaim fun c => c.nonce == nonce) = some (k, c)) : s.noteDropped n nonce =
      if c.phase = .sending ∧ c.segment = n ∧ s.segs[n].holdsCopy nonce = false then s.withdraw k else s := by
  rw [State.noteDropped, h]

theorem takeNotice_seg (s : State) (n : SegNo) :
    (s.takeNotice n).segs[n] = { s.segs[n] with notices := s.segs[n].notices.tail } := by
  rw [State.takeNotice, withSeg_getElem, if_pos rfl]

/-- Settles O44: no slot of the nonce, or the lowest one, for each kind of notice. -/
theorem transmitNoticesMoveClaims : Obligations.TransmitNoticesMoveClaims := by
  intro s n sent nonce h u copy c
  have hcopy : (s.takeNotice n).segs[n].holdsCopy nonce = true ↔ copy := by rw [takeNotice_seg]; exact holdsCopy_iff
  refine ⟨fun hnone => ?_, fun k e he hnonce hleast => ⟨?_, ?_, ?_⟩⟩
  · have hfind : ((s.takeNotice n).findClaim fun c => c.nonce == nonce) = none :=
      findClaim_of_none fun k e he => beq_eq_false_iff_ne.mpr (hnone k e he)
    cases sent with
    | true =>
      refine (transmitNotice_of_granted h).trans (congrArg Host.Outcome.next ?_)
      rw [State.noteSent, hfind]; rfl
    | false =>
      refine (dropNotice_of_granted h).trans (congrArg Host.Outcome.next ?_)
      rw [State.noteDropped, hfind]; rfl
  all_goals
    have hfind : ((s.takeNotice n).findClaim fun c => c.nonce == nonce) = some (k, e) :=
      findClaim_of_least he (beq_iff_eq.mpr hnonce) fun j hj x hx => beq_eq_false_iff_ne.mpr (hleast j hj x hx)
  · rintro rfl
    refine (transmitNotice_of_granted h).trans (congrArg Host.Outcome.next ?_)
    rw [State.noteSent, hfind]; rfl
  · rintro rfl hphase hseg hno
    refine (dropNotice_of_granted h).trans (congrArg Host.Outcome.next ?_)
    rw [noteDropped_of_found hfind, if_pos ⟨hphase, hseg, Bool.eq_false_iff.mpr fun hh => hno (hcopy.mp hh)⟩]
    rfl
  · rintro rfl hother
    refine (dropNotice_of_granted h).trans (congrArg Host.Outcome.next ?_)
    rw [noteDropped_of_found hfind, if_neg]
    · rfl
    · rintro ⟨hphase, hseg, hno⟩
      rcases hother with hoffered | hsegment | hheld
      · exact absurd (hphase.symm.trans hoffered) nofun
      · exact hsegment hseg
      · exact absurd (hcopy.mpr hheld) (Bool.eq_false_iff.mp hno)

/-! ### A visit of a record (R118 to R122) -/

theorem changed_of_same {old new : Record} (h : old.sameTracked new = true) :
    old.changed new = { new with generation := old.generation } := by
  rw [Record.changed, if_pos h]

theorem changed_of_state_ne {old new : Record} (h : old.state ≠ new.state) :
    old.changed new = { new with generation := nextGeneration old.generation } := by
  rw [Record.changed, if_neg]
  simp [Record.sameTracked, h]

/-- An operation that changes a record and then moves only segments and the pool. -/
theorem changeRecord_becomes {s t : State} {i : RecNo} {new r : Record} (hr : s.records[i].changed new = r)
    (ht : t.book = (s.changeRecord i new).book) : RecordBecomes s t i r :=
  recordBecomes_of_book (u := s) rfl (by rw [ht, State.changeRecord, hr])

theorem sameTracked_tickDown (r : Record) : r.sameTracked r.tickDown = true := by simp [Record.sameTracked, Record.tickDown]

theorem changed_tickDown (r : Record) : r.changed r.tickDown = { r with ticks := r.ticks - 1 } :=
  changed_of_same (sameTracked_tickDown r)

theorem probe_frame (s : State) (i : RecNo) : s.probe i = { s with segs := (s.probe i).segs } := by
  unfold State.probe State.placeForRecord
  split <;> rfl

theorem probe_segs {s u : State} {i : RecNo} {id : ModuleId} {a : Address} {n : SegNo} (hid : u.records[i].id = some id)
    (ha : u.records[i].address = some a) (hn : u.records[i].segment = some n) (hsegs : u.segs = s.segs) :
    (u.probe i).segs = (s.place n a (.probe id a)).segs := by
  rw [State.probe, State.placeForRecord, hn, hid, ha]
  show u.segs.set n (if u.segs[n].room then _ else _) = s.segs.set n (if s.segs[n].room then _ else _)
  rw [hsegs]
  rfl

theorem leaseRunOut_eq (s : State) (i : RecNo) : s.leaseRunOut i =
    (s.changeRecord i { s.records[i].notify .stale with state := .stale, ticks := s.config.staleWindow }).probe i := rfl

theorem ticks_le_one {t : Byte} (h : t = 1) : t ≤ 1 := by subst h; decide

theorem not_ticks_le_one {t : Byte} (h : 1 < t.toNat) : ¬t ≤ 1 := fun hle => Nat.not_le.mpr h hle

theorem visitRecord_of_passed {s : State} {i : RecNo} (ha : s.records[i].state ≠ .active) (hs : s.records[i].state ≠ .stale) :
    s.visitRecord i = s := by
  unfold State.visitRecord
  split
  · next h => exact absurd h ha
  · next h => exact absurd h hs
  · rfl

theorem visitRecord_of_active {s : State} {i : RecNo} (h : s.records[i].state = .active) : s.visitRecord i =
    if s.records[i].ticks ≤ 1 then s.leaseRunOut i else s.changeRecord i s.records[i].tickDown := by
  rw [State.visitRecord, h]

theorem visitRecord_of_stale {s : State} {i : RecNo} (h : s.records[i].state = .stale) : s.visitRecord i =
    if s.records[i].ticks ≤ 1 then s.endBinding i .expired else (s.changeRecord i s.records[i].tickDown).probe i := by
  rw [State.visitRecord, h]

theorem endBinding_of_static {s : State} {i : RecNo} (h : s.records[i].kind = .static) (why : Reason) : s.endBinding i why =
    s.changeRecord i { s.records[i].notify why with state := .dormant, ticks := 0 } := if_pos h

theorem endBinding_of_other {s : State} {i : RecNo} (h : s.records[i].kind ≠ .static) (why : Reason) : s.endBinding i why =
    (s.changeRecord i { s.records[i].notify why with state := .retired, ticks := 0, groups := 0 }).holdAddressOf
      s.records[i] := if_neg h

theorem holdAddressOf_frame (s : State) (r : Record) : s.holdAddressOf r = s.withPool (s.holdAddressOf r).pool :=
  releaseByMode_frame s r true

/-- What a visit can reach. -/
def Visited (s t : State) : Prop :=
  t = { s with
    engine := { s.engine with attnCount := t.engine.attnCount }
    records := t.records, groups := t.groups, segs := t.segs, pool := t.pool }

theorem changeRecord_visited (s : State) (i : RecNo) (r : Record) : Visited s (s.changeRecord i r) := rfl

theorem Visited.probe {s t : State} (h : Visited s t) (i : RecNo) : Visited s (t.probe i) := by
  unfold Visited at *
  rw [probe_frame]
  generalize (t.probe i).segs = g
  rw [h]

theorem endBinding_visited (s : State) (i : RecNo) (why : Reason) : Visited s (s.endBinding i why) := by
  by_cases h : s.records[i].kind = .static
  · rw [endBinding_of_static h]; exact changeRecord_visited ..
  · rw [endBinding_of_other h, Visited, holdAddressOf_frame]
    rfl

theorem visitRecord_visited (s : State) (i : RecNo) : Visited s (s.visitRecord i) := by
  by_cases ha : s.records[i].state = .active
  · rw [visitRecord_of_active ha]
    split
    · exact (changeRecord_visited ..).probe i
    · exact changeRecord_visited ..
  by_cases hs : s.records[i].state = .stale
  · rw [visitRecord_of_stale hs]
    split
    · exact endBinding_visited ..
    · exact (changeRecord_visited ..).probe i
  · rw [visitRecord_of_passed ha hs]; rfl

theorem changeRecord_self (s : State) (i : RecNo) (r : Record) :
    (s.changeRecord i r).records[i] = s.records[i].changed r := by
  rw [changeRecord_records, if_pos rfl]

theorem visit_active_counts {s : State} {i : RecNo} {r : Record} (hr : s.records[i] = r) (hst : r.state = .active)
    (ht : 1 < r.ticks.toNat) : RecordBecomes s (s.visitRecord i) i { r with ticks := r.ticks - 1 }
      ∧ (s.visitRecord i).segs = s.segs ∧ (s.visitRecord i).pool = s.pool := by
  subst hr
  rw [visitRecord_of_active hst, if_neg (not_ticks_le_one ht)]
  exact ⟨changeRecord_becomes (changed_tickDown _) rfl, rfl, rfl⟩

theorem probe_becomes {s : State} {i : RecNo} {new r : Record} (hr : s.records[i].changed new = r) {id : ModuleId} {a : Address}
    {n : SegNo} (hid : r.id = some id) (ha : r.address = some a) (hn : r.segment = some n) :
    RecordBecomes s ((s.changeRecord i new).probe i) i r
      ∧ ((s.changeRecord i new).probe i).segs = (s.place n a (.probe id a)).segs
      ∧ ((s.changeRecord i new).probe i).pool = s.pool := by
  have hrec : (s.changeRecord i new).records[i] = r := by rw [changeRecord_self, hr]
  refine ⟨changeRecord_becomes hr ?_, probe_segs (by rw [hrec]; exact hid) (by rw [hrec]; exact ha) (by rw [hrec]; exact hn) rfl, ?_⟩
  · rw [probe_frame]; rfl
  · rw [probe_frame]; rfl

theorem visit_active_runs_out {s : State} {i : RecNo} {r : Record} (hr : s.records[i] = r) (hst : r.state = .active)
    (ht : r.ticks = 1) {id : ModuleId} {a : Address} {n : SegNo} (hid : r.id = some id) (ha : r.address = some a)
    (hn : r.segment = some n) : RecordBecomes s (s.visitRecord i) i { r with
        state := .stale, ticks := s.config.staleWindow, attention := r.attention ||| 0x08
        generation := nextGeneration r.generation }
      ∧ (s.visitRecord i).segs = (s.place n a (.probe id a)).segs ∧ (s.visitRecord i).pool = s.pool := by
  subst hr
  rw [visitRecord_of_active hst, if_pos (ticks_le_one ht), leaseRunOut_eq]
  exact probe_becomes (changed_of_state_ne (by rw [hst]; nofun)) hid ha hn

theorem visit_stale_counts {s : State} {i : RecNo} {r : Record} (hr : s.records[i] = r) (hst : r.state = .stale)
    (ht : 1 < r.ticks.toNat) {id : ModuleId} {a : Address} {n : SegNo} (hid : r.id = some id) (ha : r.address = some a)
    (hn : r.segment = some n) : RecordBecomes s (s.visitRecord i) i { r with ticks := r.ticks - 1 }
      ∧ (s.visitRecord i).segs = (s.place n a (.probe id a)).segs ∧ (s.visitRecord i).pool = s.pool := by
  subst hr
  rw [visitRecord_of_stale hst, if_neg (not_ticks_le_one ht)]
  exact probe_becomes (changed_tickDown _) hid ha hn

/-- A live DYNAMIC binding that ends becomes a tombstone, and its address is held. -/
theorem endBinding_dynamic {s : State} {i : RecNo} {r : Record} (hr : s.records[i] = r) (hlive : r.state ≠ .retired)
    (hkind : r.kind ≠ .static) {a : Address} (ha : r.address = some a) (why : Reason) :
    RecordBecomes s (s.endBinding i why) i { r with
        state := .retired, ticks := 0, groups := 0, attention := r.attention ||| BitVec.twoPow 8 why.bit
        generation := nextGeneration r.generation }
      ∧ (s.endBinding i why).segs = s.segs ∧ (s.endBinding i why).pool = s.pool.toHold s.config.holdPeriod a r.id := by
  subst hr
  rw [endBinding_of_other hkind]
  refine ⟨changeRecord_becomes (new := { s.records[i].notify why with state := .retired, ticks := 0, groups := 0 })
    (changed_of_state_ne hlive) ?_, ?_, ?_⟩
  · rw [holdAddressOf_frame]; rfl
  · rw [holdAddressOf_frame]; rfl
  · rw [State.holdAddressOf, ha]; rfl

/-- A live STATIC binding that ends becomes DORMANT and keeps its address. -/
theorem endBinding_static {s : State} {i : RecNo} {r : Record} (hr : s.records[i] = r) (hlive : r.state ≠ .dormant)
    (hkind : r.kind = .static) (why : Reason) : RecordBecomes s (s.endBinding i why) i { r with
        state := .dormant, ticks := 0, attention := r.attention ||| BitVec.twoPow 8 why.bit
        generation := nextGeneration r.generation }
      ∧ (s.endBinding i why).segs = s.segs ∧ (s.endBinding i why).pool = s.pool := by
  subst hr
  rw [endBinding_of_static hkind]
  exact ⟨changeRecord_becomes (changed_of_state_ne hlive) rfl, rfl, rfl⟩

theorem visit_stale_runs_out {s : State} {i : RecNo} (hst : s.records[i].state = .stale) (ht : s.records[i].ticks = 1) :
    s.visitRecord i = s.endBinding i .expired := by
  rw [visitRecord_of_stale hst, if_pos (ticks_le_one ht)]

/-! ### The end of a sweep (R115, R121) -/

theorem endSweep_of_none {s : State} (h : s.engine.owed = 0 ∨ s.flushWaiting = true) :
    s.endSweep = s.withEngine { s.engine with sweeping := false, sweepNext := .holdList } := by
  have hwaits : (s.withEngine { s.engine with sweeping := false, sweepNext := .holdList }).flushWaiting = s.flushWaiting := rfl
  unfold State.endSweep
  simp only
  split
  · rfl
  · next hf =>
    have hzero : s.engine.owed = 0 := h.resolve_right fun h => hf (hwaits.trans h)
    exact if_neg (show ¬0 < s.engine.owed by omega)

theorem endSweep_of_owed {s : State} (ho : s.engine.owed ≠ 0) (h : s.flushWaiting = false) :
    s.endSweep = s.withEngine { s.engine with sweeping := true, sweepNext := .holdList, owed := s.engine.owed - 1 } := by
  have hwaits : (s.withEngine { s.engine with sweeping := false, sweepNext := .holdList }).flushWaiting = s.flushWaiting := rfl
  unfold State.endSweep
  simp only
  rw [if_neg (by rw [hwaits, h]; exact Bool.false_ne_true)]
  exact if_pos (Nat.pos_of_ne_zero ho)

/-! ### The obligation -/

theorem runsOutIn_of {r : Record} {st : RecState} (hst : r.state = st) (ht : r.ticks = 1) : r.runsOutIn st = true := by
  rw [Record.runsOutIn, hst, ht, beq_self_eq_true]
  rfl

theorem sweepVisit_of_granted {s : State} {i : RecNo} (h : s.granted = some (.sweepStep (.visit i))) :
    exec .sweepVisit s = .next (s.sweepVisit i) := by
  show execSweepVisit s = _
  rw [execSweepVisit, h]

theorem leaseRunOut_of_granted {s : State} {i : RecNo} (h : s.granted = some (.sweepStep (.visit i)))
    (hst : s.records[i].state = .active) (ht : s.records[i].ticks = 1) : exec .leaseRunOut s = .next (s.sweepVisit i) := by
  show execLeaseRunOut s = _
  rw [execLeaseRunOut, h]
  exact congrArg Host.Outcome.next (if_pos (runsOutIn_of hst ht))

theorem staleWindowRunOut_of_granted {s : State} {i : RecNo} (h : s.granted = some (.sweepStep (.visit i)))
    (hst : s.records[i].state = .stale) (ht : s.records[i].ticks = 1) :
    exec .staleWindowRunOut s = .next (s.sweepVisit i) := by
  show execStaleWindowRunOut s = _
  rw [execStaleWindowRunOut, h]
  exact congrArg Host.Outcome.next (if_pos (runsOutIn_of hst ht))

theorem sweepVisit_of_last (s : State) : s.sweepVisit 255 = ((s.pointTo .timer).visitRecord 255).endSweep := rfl

theorem sweepVisit_of_before {s : State} {i : RecNo} (h : i ≠ 255) : s.sweepVisit i =
    ((s.pointTo .timer).visitRecord i).withEngine
      { ((s.pointTo .timer).visitRecord i).engine with sweepNext := .visit (i + 1) } := if_neg h

/-- Settles O47: the visit by the record's state and ticks, and what follows it. -/
theorem sweepVisitsAgeRecords : Obligations.SweepVisitsAgeRecords := by
  intro s i h r
  have hvisited : Visited (s.pointTo .timer) ((s.pointTo .timer).visitRecord i) := visitRecord_visited ..
  have hends (hst : r.state = .stale) (ht : r.ticks = 1) :
      (s.pointTo .timer).visitRecord i = (s.pointTo .timer).endBinding i .expired := visit_stale_runs_out hst ht
  refine ⟨(s.pointTo .timer).visitRecord i, s.sweepVisit i, sweepVisit_of_granted h, leaseRunOut_of_granted h,
    staleWindowRunOut_of_granted h, hvisited, fun hst ht => visit_active_counts (s := s.pointTo .timer) rfl hst ht,
    fun id a n hst ht hid ha hn => visit_active_runs_out (s := s.pointTo .timer) rfl hst ht hid ha hn,
    fun id a n hst ht hid ha hn => visit_stale_counts (s := s.pointTo .timer) rfl hst ht hid ha hn,
    fun a hst ht hkind ha => ?_, fun hst ht hkind => ?_,
    fun ha hs => visitRecord_of_passed (s := s.pointTo .timer) ha hs, sweepVisit_of_before, ?_⟩
  · rw [hends hst ht]
    exact endBinding_dynamic (s := s.pointTo .timer) (r := r) rfl (by rw [hst]; nofun) (by rw [hkind]; nofun) ha .expired
  · rw [hends hst ht]
    exact endBinding_static (s := s.pointTo .timer) (r := r) rfl (by rw [hst]; nofun) hkind .expired
  · rintro rfl
    rw [sweepVisit_of_last]
    generalize (s.pointTo .timer).visitRecord 255 = u at hvisited
    have howed : u.engine.owed = s.engine.owed := by rw [hvisited]; rfl
    have hwaits : u.flushWaiting = s.flushWaiting := by rw [hvisited]; rfl
    refine ⟨fun hstop => endSweep_of_none ?_, fun ho hno => ?_⟩
    · rw [howed, hwaits, flushWaiting_iff]; exact hstop
    · rw [← howed] at ho ⊢
      exact endSweep_of_owed ho (by rw [hwaits]; exact Bool.eq_false_iff.mpr fun hw => hno ((flushWaiting_iff s).mp hw))

end Sys2Proof.Machine
end

section
/-! PROOF. The line code (R146, R186): O50. -/

namespace Sys2Proof.Machine

/-! ### Bits and bytes -/

theorem byteBits_eq_getMsbD (b : Byte) : byteBits b = (List.range 8).map b.getMsbD := by revert b; decide

theorem bitsToByte_byteBits (b : Byte) : bitsToByte (b.getLsbD 7) (b.getLsbD 6) (b.getLsbD 5) (b.getLsbD 4) (b.getLsbD 3)
    (b.getLsbD 2) (b.getLsbD 1) (b.getLsbD 0) = b := by revert b; decide

theorem wholeBytes_frameBits (bytes : List Byte) : wholeBytes (frameBits bytes) = bytes := by
  induction bytes with
  | nil => rfl
  | cons b bytes ih =>
    show bitsToByte _ _ _ _ _ _ _ _ :: wholeBytes (frameBits bytes) = _
    rw [bitsToByte_byteBits, ih]

/-! ### The coder and the decoder -/

theorem levelOf_eq (bit : Bool) : levelOf bit = if bit then Level.idle else Level.active := rfl

/-- The coder's rule, with the run that each bit ends. -/
theorem stuff_cons (run : Level) (n : Nat) (bit : Bool) (rest : List Bool) : stuff run n (bit :: rest) =
    if levelOf bit = .idle ∧ runLength run n (levelOf bit) = 2 then .idle :: .active :: stuff .active 1 rest
    else if levelOf bit = .active ∧ runLength run n (levelOf bit) = 6 then .active :: .idle :: stuff .idle 1 rest
    else levelOf bit :: stuff (levelOf bit) (runLength run n (levelOf bit)) rest := by
  cases bit <;> rfl

theorem unstuff_of_idle_limit (l : Level) (rest : List Level) : unstuff .idle 2 (l :: rest) =
    match l with | .idle => ([], false) | .active => unstuff .active 1 rest := by cases l <;> rfl

theorem unstuff_of_active_limit (l : Level) (rest : List Level) : unstuff .active 6 (l :: rest) =
    match l with | .idle => unstuff .idle 1 rest | .active => ((unstuff .active 1 rest).1, true) := by cases l <;> rfl

theorem unstuff_of_below {run : Level} {n : Nat} (hidle : ¬(run = .idle ∧ n = 2)) (hactive : ¬(run = .active ∧ n = 6)) (l : Level)
    (rest : List Level) : unstuff run n (l :: rest) =
      ((l == .idle) :: (unstuff l (runLength run n l) rest).1, (unstuff l (runLength run n l) rest).2) := by
  rw [unstuff.eq_def]
  simp only
  rw [if_neg hidle, if_neg hactive]
  cases l <;> rfl

/-- The longest run of a level: two idle bit times, or six active ones. -/
def runLimit : Level → Nat
  | .idle => 2
  | .active => 6

theorem unstuff_of_lt {run : Level} {n : Nat} (h : n < runLimit run) (l : Level) (rest : List Level) : unstuff run n (l :: rest) =
    ((l == .idle) :: (unstuff l (runLength run n l) rest).1, (unstuff l (runLength run n l) rest).2) :=
  unstuff_of_below (by rintro ⟨rfl, rfl⟩; exact Nat.lt_irrefl _ h) (by rintro ⟨rfl, rfl⟩; exact Nat.lt_irrefl _ h) l rest

theorem runLength_le {run : Level} {n : Nat} (h : n < runLimit run) (l : Level) : runLength run n l ≤ runLimit l := by
  unfold runLength
  split
  · next hl => subst hl; exact h
  · cases l <;> decide

/-- What is driven for any bits, after a run below its limit, is read back as these bits. -/
theorem unstuff_stuff (bits : List Bool) {run : Level} {n : Nat} (h : n < runLimit run) :
    unstuff run n (stuff run n bits) = (bits, false) := by
  induction bits generalizing run n with
  | nil => rfl
  | cons bit rest ih =>
    have hbit : (levelOf bit == .idle) = bit := by cases bit <;> rfl
    have hle := runLength_le h (levelOf bit)
    rw [stuff_cons]
    split
    · next hidle =>
      obtain ⟨hl, hn⟩ := hidle
      rw [hl] at hn hbit
      rw [unstuff_of_lt h, hn, unstuff_of_idle_limit, ih (by decide), hbit]
    split
    · next hactive =>
      obtain ⟨hl, hn⟩ := hactive
      rw [hl] at hn hbit
      rw [unstuff_of_lt h, hn, unstuff_of_active_limit, ih (by decide), hbit]
    · next hidle hactive =>
      have hlt : runLength run n (levelOf bit) < runLimit (levelOf bit) := by
        refine lt_of_le_of_ne hle fun heq => ?_
        cases hl : levelOf bit with
        | idle => rw [hl] at heq hidle; exact hidle ⟨rfl, heq⟩
        | active => rw [hl] at heq hactive; exact hactive ⟨rfl, heq⟩
      rw [unstuff_of_lt h, ih hlt, hbit]

theorem lineDecode_lineCode (bytes : List Byte) : lineDecode (lineCode bytes) = (frameBits bytes, false) :=
  unstuff_stuff _ (by decide)

/-! ### Runs on the line -/

/-- After a run of n at level run, no run grows beyond its limit. -/
def runsBounded (run : Level) (n : Nat) : List Level → Prop
  | [] => True
  | l :: rest => runLength run n l ≤ runLimit l ∧ runsBounded l (runLength run n l) rest

theorem stuff_runsBounded (bits : List Bool) {run : Level} {n : Nat} (h : n < runLimit run) :
    runsBounded run n (stuff run n bits) := by
  induction bits generalizing run n with
  | nil => trivial
  | cons bit rest ih =>
    have hle := runLength_le h (levelOf bit)
    rw [stuff_cons]
    split
    · next hidle =>
      obtain ⟨hl, hn⟩ := hidle
      rw [hl] at hn
      exact ⟨hn.le, by rw [hn]; exact ⟨by decide, ih (by decide)⟩⟩
    split
    · next hactive =>
      obtain ⟨hl, hn⟩ := hactive
      rw [hl] at hn
      exact ⟨hn.le, by rw [hn]; exact ⟨by decide, ih (by decide)⟩⟩
    · next hidle hactive =>
      refine ⟨hle, ih (lt_of_le_of_ne hle fun heq => ?_)⟩
      cases hl : levelOf bit with
      | idle => rw [hl] at heq hidle; exact hidle ⟨rfl, heq⟩
      | active => rw [hl] at heq hactive; exact hactive ⟨rfl, heq⟩

theorem runsBounded_replicate {l : Level} {n k : Nat} {after : List Level}
    (h : runsBounded l n (List.replicate k l ++ after)) (hn : n ≤ runLimit l) : n + k ≤ runLimit l := by
  induction k generalizing n with
  | zero => exact hn
  | succ k ih =>
    obtain ⟨hle, hrest⟩ := h
    rw [runLength, if_pos rfl] at hle hrest
    have := ih hrest hle
    omega

/-- A run somewhere on a line whose runs are bounded is bounded. -/
theorem run_le_limit {before after : List Level} {l : Level} {k : Nat} {run : Level} {n : Nat}
    (h : runsBounded run n (before ++ (List.replicate k l ++ after))) : k ≤ runLimit l := by
  induction before generalizing run n with
  | nil =>
    cases k with
    | zero => exact Nat.zero_le _
    | succ k =>
      obtain ⟨hle, hrest⟩ := h
      have hone : 1 ≤ runLength run n l := by unfold runLength; split <;> omega
      have := runsBounded_replicate hrest hle
      omega
  | cons x before ih => exact ih h.2

/-- Settles O50: the rules of coder and decoder, the round trip, and the runs. -/
theorem lineCodeRoundTrip : Obligations.LineCodeRoundTrip := by
  refine ⟨fun bytes => ?_, fun bytes => rfl, fun run n bit rest => ⟨rfl, stuff_cons run n bit rest⟩, fun line => rfl,
    fun run n l rest => ⟨rfl, ?_, ?_, fun hidle hactive => unstuff_of_below hidle hactive l rest⟩,
    fun bytes => ⟨lineDecode_lineCode bytes, wholeBytes_frameBits bytes⟩, fun bytes before after l k h => ?_⟩
  · rw [frameBits]
    exact congrArg (bytes.flatMap ·) (funext byteBits_eq_getMsbD)
  · rintro rfl rfl; exact ⟨rfl, rfl⟩
  · rintro rfl rfl; exact ⟨rfl, rfl⟩
  · have hruns : runsBounded .idle 0 (.active :: lineCode bytes) := ⟨by decide, stuff_runsBounded _ (by decide)⟩
    rw [h, List.append_assoc] at hruns
    have hle := run_le_limit hruns
    exact ⟨fun hl => by rwa [hl] at hle, fun hl => by rwa [hl] at hle⟩

end Sys2Proof.Machine
end

section
/-! PROOF. The filter (R153 to R155, R186, R187): O49 and O51. -/

namespace Sys2Proof.Machine

/-! ### The CRC-16 and the order of bytes -/

theorem topBits_append_zero (b : Byte) : topBits 8 (b ++ (0 : Byte)) = byteBits b := by revert b; decide

theorem append_zero_shiftLeft (b : Byte) : (b ++ (0 : Byte)) <<< 8 = (0 : BitVec 16) := by revert b; decide

theorem crc16_byte (c : BitVec 16) (b : Byte) :
    crc16Shift^[8] (c ^^^ (b ++ (0 : Byte))) = (byteBits b).foldl (crcStep 0x8005) c := by
  have h := crcShift_iterate (0x8005 : BitVec 16) 8 c (b ++ (0 : Byte))
  rw [append_zero_shiftLeft, topBits_append_zero] at h
  exact h.trans BitVec.xor_zero

theorem crc16_bits (bytes : List Byte) : crc16 bytes = (frameBits bytes).foldl (crcStep 0x8005) 0xFFFF := by
  rw [foldl_frameBits, crc16]
  simp only [crc16_byte]

theorem extractLsb'_eq_ofNat {w : Nat} (x : BitVec w) (k : Nat) : x.extractLsb' (8 * k) 8 = BitVec.ofNat 8 (x.toNat / 256 ^ k) := by
  rw [BitVec.extractLsb', Nat.shiftRight_eq_div_pow, Nat.pow_mul]

theorem bytes16_eq (w : BitVec 16) : bytes16 w = [BitVec.ofNat 8 (w.toNat / 256), BitVec.ofNat 8 w.toNat] := by
  have h1 := extractLsb'_eq_ofNat w 1
  have h0 := extractLsb'_eq_ofNat w 0
  rw [Nat.pow_one] at h1
  rw [Nat.pow_zero, Nat.div_one] at h0
  rw [bytes16, h1, h0]

theorem idBytes_eq (id : ModuleId) : idBytes id = (List.range 8).map fun k => BitVec.ofNat 8 (id.toNat / 256 ^ (7 - k)) := by
  have h (k : Nat) := (extractLsb'_eq_ofNat id k).symm
  simp only [h]
  rfl

theorem fieldMessage_codes (m : FieldMessage) : (m.kindCode, m.body) = match m with
    | .announce id cls preferred => (0x01, idBytes id ++ [cls, preferred])
    | .accept id nonce a => (0x02, idBytes id ++ bytes16 nonce ++ [a])
    | .decline id nonce => (0x03, idBytes id ++ bytes16 nonce)
    | .heartbeat id => (0x04, idBytes id)
    | .release id => (0x05, idBytes id)
    | .resolve requester (.byId target) => (0x06, idBytes requester ++ idBytes target)
    | .resolve requester (.byAddress target) => (0x07, idBytes requester ++ [target])
    | .resolve requester (.byGroup g start) => (0x08, idBytes requester ++ [g, start]) := by
  cases m with
  | resolve requester question => cases question <;> rfl
  | announce id cls preferred => rfl
  | accept id nonce a => rfl
  | decline id nonce => rfl
  | heartbeat id => rfl
  | release id => rfl

/-! ### Fields read back -/

theorem bytes16_join16 (hi lo : Byte) : bytes16 (join16 hi lo) = [hi, lo] := by
  rw [bytes16, join16]
  congr 1
  · exact BitVec.extractLsb'_append_of_eq (k := 1) rfl
  · congr 1
    rw [BitVec.extractLsb'_append_eq_of_add_le (by decide), BitVec.extractLsb'_eq_self]

/-- The low byte of a vector with a byte behind it, and the bytes above. -/
theorem extractLsb'_append_low {w : Nat} (x : BitVec w) (b : Byte) : (x ++ b).extractLsb' 0 8 = b := by
  rw [BitVec.extractLsb'_append_eq_of_add_le (by decide), BitVec.extractLsb'_eq_self]

theorem extractLsb'_append_high {w k : Nat} (x : BitVec w) (b : Byte) (h : 8 ≤ k) :
    (x ++ b).extractLsb' k 8 = x.extractLsb' (k - 8) 8 := by
  refine BitVec.eq_of_getLsbD_eq fun i hi => ?_
  rw [BitVec.getLsbD_extractLsb', BitVec.getLsbD_extractLsb', BitVec.getLsbD_append, if_neg (by omega)]
  congr 2
  omega

theorem idBytes_joinId (b0 b1 b2 b3 b4 b5 b6 b7 : Byte) :
    idBytes (joinId b0 b1 b2 b3 b4 b5 b6 b7) = [b0, b1, b2, b3, b4, b5, b6, b7] := by
  simp (disch := decide) only [idBytes, joinId, extractLsb'_append_high, extractLsb'_append_low, Nat.reduceSub]
  rw [BitVec.extractLsb'_eq_self]

/-- The bytes of the fields read at a place are the bytes that stand there. -/
theorem idBytes_idAt (p : List Byte) (k : Nat) : idBytes (idAt p k) = [byteAt p k, byteAt p (k + 1), byteAt p (k + 2),
    byteAt p (k + 3), byteAt p (k + 4), byteAt p (k + 5), byteAt p (k + 6), byteAt p (k + 7)] := idBytes_joinId ..

theorem bytes16_wordAt (p : List Byte) (k : Nat) : bytes16 (wordAt p k) = [byteAt p k, byteAt p (k + 1)] := bytes16_join16 ..

theorem eq_map_byteAt {p : List Byte} {n : Nat} (h : p.length = n) : p = (List.range n).map (byteAt p) := by
  refine List.ext_getElem (by simp [h]) fun k h1 h2 => ?_
  rw [List.getElem_map, List.getElem_range, byteAt, List.getD_eq_getElem _ _ h1]

/-! ### A message from its kind and body (R154, R187) -/

/-- A message read from its own kind code and body. -/
theorem parse_body (m : FieldMessage) : FieldMessage.parse m.kindCode m.body = some m := by
  have hid (id : ModuleId) (rest : List Byte) : idAt (idBytes id ++ rest) 0 = id := idAt_idBytes_append id rest
  cases m with
  | announce id cls preferred =>
    exact (show _ = some (FieldMessage.announce (idAt (idBytes id ++ [cls, preferred]) 0) cls preferred) from rfl).trans
      (by rw [hid])
  | accept id nonce a =>
    exact (show _ = some (FieldMessage.accept (idAt (idBytes id ++ (bytes16 nonce ++ [a])) 0)
      (join16 (nonce.extractLsb' 8 8) (nonce.extractLsb' 0 8)) a) from rfl).trans (by rw [hid, join16_bytes])
  | decline id nonce =>
    exact (show _ = some (FieldMessage.decline (idAt (idBytes id ++ bytes16 nonce) 0)
      (join16 (nonce.extractLsb' 8 8) (nonce.extractLsb' 0 8))) from rfl).trans (by rw [hid, join16_bytes])
  | heartbeat id => exact (show _ = some (FieldMessage.heartbeat (idAt (idBytes id) 0)) from rfl).trans (by rw [idAt_idBytes])
  | release id => exact (show _ = some (FieldMessage.release (idAt (idBytes id) 0)) from rfl).trans (by rw [idAt_idBytes])
  | resolve requester question =>
    cases question with
    | byId target =>
      exact (show _ = some (FieldMessage.resolve (idAt (idBytes requester ++ idBytes target) 0)
        (.byId (idAt (idBytes target) 0))) from rfl).trans (by rw [hid, idAt_idBytes])
    | byAddress target =>
      exact (show _ = some (FieldMessage.resolve (idAt (idBytes requester ++ [target]) 0) (.byAddress target)) from rfl).trans
        (by rw [hid])
    | byGroup g start =>
      exact (show _ = some (FieldMessage.resolve (idAt (idBytes requester ++ [g, start]) 0) (.byGroup g start)) from rfl).trans
        (by rw [hid])

/-- A message read has the kind code and the body from which it was read. -/
theorem of_parse {kind : Byte} {body : List Byte} {m : FieldMessage} (h : FieldMessage.parse kind body = some m) :
    kind = m.kindCode ∧ body = m.body := by
  have hbody (n : Nat) (hn : body.length = n) := eq_map_byteAt hn
  unfold FieldMessage.parse at h
  split at h
  · next hc => cases h; exact ⟨hc.1, (hbody 10 hc.2).trans (by rw [FieldMessage.body, idBytes_idAt]; rfl)⟩
  split at h
  · next hc =>
    cases h; exact ⟨hc.1, (hbody 11 hc.2).trans (by rw [FieldMessage.body, idBytes_idAt, bytes16_wordAt]; rfl)⟩
  split at h
  · next hc =>
    cases h; exact ⟨hc.1, (hbody 10 hc.2).trans (by rw [FieldMessage.body, idBytes_idAt, bytes16_wordAt]; rfl)⟩
  split at h
  · next hc => cases h; exact ⟨hc.1, (hbody 8 hc.2).trans (by rw [FieldMessage.body, idBytes_idAt]; rfl)⟩
  split at h
  · next hc => cases h; exact ⟨hc.1, (hbody 8 hc.2).trans (by rw [FieldMessage.body, idBytes_idAt]; rfl)⟩
  split at h
  · next hc =>
    cases h; exact ⟨hc.1, (hbody 16 hc.2).trans (by rw [FieldMessage.body, Question.bytes, idBytes_idAt, idBytes_idAt]; rfl)⟩
  split at h
  · next hc => cases h; exact ⟨hc.1, (hbody 9 hc.2).trans (by rw [FieldMessage.body, idBytes_idAt]; rfl)⟩
  split at h
  · next hc => cases h; exact ⟨hc.1, (hbody 10 hc.2).trans (by rw [FieldMessage.body, idBytes_idAt]; rfl)⟩
  · cases h

/-! ### The content checks (R154) -/

theorem lawfulId_iff {id : ModuleId} : (!invalidId id) = true ↔ lawfulId id := by
  rw [Bool.not_eq_true', Bool.eq_false_iff, Ne, invalidId_iff, not_or]

theorem below_f0_iff {a : Address} : decide (a ≤ Config.lastAddress) = true ↔ a < 0xF0 := by
  rw [decide_eq_true_iff, Config.lastAddress]
  bv_omega

theorem assignable_iff_bounds {a : Address} : assignable a = true ↔ 0x01 ≤ a ∧ a < 0xF0 := by
  rw [assignable, Bool.and_eq_true, below_f0_iff, decide_eq_true_iff]
  rfl

/-- A frame is lawful when its addresses and its IDs pass the content checks. -/
theorem lawful_iff (f : RxFrame) : f.lawful ↔
    (f.message.destinationOk f.dest && f.message.sourceOk f.source && f.message.idsOk) = true := by
  obtain ⟨dest, source, m⟩ := f
  rw [Bool.and_eq_true, Bool.and_eq_true, and_assoc]
  cases m with
  | announce id cls preferred =>
    show (dest = 0xF0 ∨ dest = 0xFF) ∧ source < 0xF0 ∧ lawfulId id
      ↔ (dest == 0xF0 || dest == 0xFF) = true ∧ decide (source ≤ Config.lastAddress) = true ∧ (!invalidId id) = true
    rw [lawfulId_iff, below_f0_iff, Bool.or_eq_true, beq_iff_eq, beq_iff_eq]
  | accept id nonce a =>
    show dest = 0xF0 ∧ source < 0xF0 ∧ lawfulId id
      ↔ (dest == 0xF0) = true ∧ decide (source ≤ Config.lastAddress) = true ∧ (!invalidId id) = true
    rw [lawfulId_iff, below_f0_iff, beq_iff_eq]
  | decline id nonce =>
    show dest = 0xF0 ∧ source < 0xF0 ∧ lawfulId id
      ↔ (dest == 0xF0) = true ∧ decide (source ≤ Config.lastAddress) = true ∧ (!invalidId id) = true
    rw [lawfulId_iff, below_f0_iff, beq_iff_eq]
  | heartbeat id =>
    show dest = 0xF0 ∧ 0x01 ≤ source ∧ source < 0xF0 ∧ lawfulId id
      ↔ (dest == 0xF0) = true ∧ assignable source = true ∧ (!invalidId id) = true
    rw [lawfulId_iff, assignable_iff_bounds, beq_iff_eq, and_assoc]
  | release id =>
    show dest = 0xF0 ∧ 0x01 ≤ source ∧ source < 0xF0 ∧ lawfulId id
      ↔ (dest == 0xF0) = true ∧ assignable source = true ∧ (!invalidId id) = true
    rw [lawfulId_iff, assignable_iff_bounds, beq_iff_eq, and_assoc]
  | resolve requester question =>
    have haddresses : dest = 0xF0 ∧ 0x01 ≤ source ∧ source < 0xF0 ∧ lawfulId requester
        ∧ (∀ target, question = .byId target → lawfulId target)
      ↔ (dest == 0xF0) = true ∧ assignable source = true ∧ (!invalidId requester) = true
        ∧ (∀ target, question = .byId target → lawfulId target) := by
      rw [lawfulId_iff, assignable_iff_bounds, beq_iff_eq, @and_assoc (0x01 ≤ source)]
    refine haddresses.trans (and_congr_right fun _ => and_congr_right fun _ => ?_)
    cases question with
    | byId target =>
      show _ ↔ (!invalidId requester && !invalidId target) = true
      rw [Bool.and_eq_true]
      simp only [Question.byId.injEq, forall_eq', lawfulId_iff]
    | byAddress target =>
      show _ ↔ (!invalidId requester && true) = true
      rw [Bool.and_true]
      exact and_iff_left nofun
    | byGroup g start =>
      show _ ↔ (!invalidId requester && true) = true
      rw [Bool.and_true]
      exact and_iff_left nofun

theorem contentCheck_eq (bs : List Byte) : contentCheck bs =
    (FieldMessage.parse (byteAt bs 2) ((bs.drop 4).take (byteAt bs 3).toNat)).bind fun m =>
      if m.destinationOk (byteAt bs 0) && m.sourceOk (byteAt bs 1) && m.idsOk then some ⟨byteAt bs 0, byteAt bs 1, m⟩
      else none := by
  unfold contentCheck
  cases FieldMessage.parse (byteAt bs 2) ((bs.drop 4).take (byteAt bs 3).toNat) <;> rfl

/-- The content checks on the bytes of a frame whose body length is its body's. -/
theorem contentCheck_eq_some {d sr k n : Byte} {body tail : List Byte} (hbody : body.length = n.toNat) {f : RxFrame} :
    contentCheck ([d, sr, k, n] ++ body ++ tail) = some f ↔
      f.lawful ∧ d = f.dest ∧ sr = f.source ∧ k = f.message.kindCode ∧ body = f.message.body := by
  have htake : (([d, sr, k, n] ++ body ++ tail).drop 4).take n.toNat = body := by
    rw [List.append_assoc]
    show (body ++ tail).take n.toNat = body
    rw [← hbody, List.take_left]
  have hcheck : contentCheck ([d, sr, k, n] ++ body ++ tail) = (FieldMessage.parse k body).bind fun m =>
      if m.destinationOk d && m.sourceOk sr && m.idsOk then some ⟨d, sr, m⟩ else none := by
    have h := contentCheck_eq ([d, sr, k, n] ++ body ++ tail)
    rw [show byteAt ([d, sr, k, n] ++ body ++ tail) 3 = n from rfl, htake] at h
    exact h
  rw [hcheck]
  constructor
  · intro h
    cases hp : FieldMessage.parse k body with
    | none => rw [hp] at h; cases h
    | some m =>
      obtain ⟨hk, hm⟩ := of_parse hp
      rw [hp] at h
      rw [Option.bind_some, Option.ite_none_right_eq_some, Option.some.injEq] at h
      obtain ⟨hok, rfl⟩ := h
      exact ⟨(lawful_iff _).mpr hok, rfl, rfl, hk, hm⟩
  · rintro ⟨hf, rfl, rfl, rfl, rfl⟩
    rw [parse_body, Option.bind_some]
    exact if_pos ((lawful_iff f).mp hf)

/-! ### The integrity checks (R153) -/

theorem wholeBytes_length : ∀ bits : List Bool, 8 * (wholeBytes bits).length ≤ bits.length
  | _ :: _ :: _ :: _ :: _ :: _ :: _ :: _ :: rest => by
    have := wholeBytes_length rest
    simp only [wholeBytes, List.length_cons]
    omega
  | [] | [_] | [_, _] | [_, _, _] | [_, _, _, _] | [_, _, _, _, _] | [_, _, _, _, _, _] | [_, _, _, _, _, _, _] => Nat.zero_le _

/-- What the integrity checks ask of the bytes of a frame that is no fragment. -/
def Intact (bytes : List Byte) (codingError : Bool) : Prop :=
  codingError = false ∧ bytes = bytes.dropLast.dropLast ++ bytes16 (crc16 bytes.dropLast.dropLast)
    ∧ bytes.dropLast.dropLast.length = (bytes.getD 3 0).toNat + 4

theorem dropLast_dropLast (bytes : List Byte) : bytes.dropLast.dropLast = bytes.take (bytes.length - 2) := by
  rw [List.dropLast_eq_take, List.dropLast_eq_take, List.take_take, List.length_take]
  congr 1
  omega

theorem integrity_of_fragment {bytes : List Byte} {e : Bool} (h : bytes.length < 4) : integrity bytes e = .fragment := if_pos h

theorem intact_iff {bytes : List Byte} {e : Bool} (hmin : 4 ≤ bytes.length) (hmax : bytes.length ≤ 40) :
    Intact bytes e ↔ integrity bytes e = .good := by
  have hsplit : bytes = bytes.take (bytes.length - 2) ++ bytes.drop (bytes.length - 2) := (List.take_append_drop _ _).symm
  have hcrc : bytes = bytes.take (bytes.length - 2) ++ bytes16 (crc16 (bytes.take (bytes.length - 2)))
      ↔ bytes16 (crc16 (bytes.take (bytes.length - 2))) = bytes.drop (bytes.length - 2) := by
    conv_lhs => lhs; rw [hsplit]
    rw [List.append_cancel_left_eq, eq_comm]
  have hlength : (bytes.take (bytes.length - 2)).length = (bytes.getD 3 0).toNat + 4 ↔ bytes.length = (byteAt bytes 3).toNat + 6 := by
    rw [List.length_take, byteAt]
    omega
  rw [Intact, dropLast_dropLast, hcrc, hlength, integrity, if_neg (Nat.not_lt.mpr hmin), if_neg (show ¬Config.maxFrame < bytes.length from Nat.not_lt.mpr hmax)]
  cases e with
  | true => simp
  | false =>
    simp only [true_and, Bool.false_eq_true, if_false]
    by_cases hc : bytes16 (crc16 (bytes.take (bytes.length - 2))) = bytes.drop (bytes.length - 2)
    · rw [if_neg (not_not.mpr hc)]
      by_cases hl : bytes.length = (byteAt bytes 3).toNat + 6
      · rw [if_neg (not_not.mpr hl)]; exact iff_of_true ⟨hc, hl⟩ rfl
      · rw [if_pos hl]; exact iff_of_false (fun h => hl h.2) nofun
    · rw [if_pos hc]; exact iff_of_false (fun h => hc h.1) nofun

theorem integrity_ne_fragment {bytes : List Byte} {e : Bool} (hmin : 4 ≤ bytes.length) : integrity bytes e ≠ .fragment := by
  rw [integrity, if_neg (Nat.not_lt.mpr hmin)]
  split
  · nofun
  split
  · nofun
  split
  · nofun
  split <;> nofun

theorem integrity_of_not_intact {bytes : List Byte} {e : Bool} (hmin : 4 ≤ bytes.length) (hmax : bytes.length ≤ 40)
    (h : ¬Intact bytes e) : integrity bytes e = .bad := by
  cases hi : integrity bytes e with
  | fragment => exact absurd hi (integrity_ne_fragment hmin)
  | bad => rfl
  | good => exact absurd ((intact_iff hmin hmax).mpr hi) h

/-- An intact frame in its parts: the header, the body that its length byte counts, and the check. -/
theorem intact_parts {bytes : List Byte} {e : Bool} (h : Intact bytes e) : ∃ d sr k n body,
    bytes = [d, sr, k, n] ++ body ++ bytes16 (crc16 ([d, sr, k, n] ++ body)) ∧ body.length = n.toNat := by
  obtain ⟨_, hcrc, hlength⟩ := h
  generalize bytes.dropLast.dropLast = covered at hcrc hlength
  match covered, hlength with
  | d :: sr :: k :: n :: body, hlength =>
    have hn : bytes.getD 3 0 = n := by rw [hcrc]; rfl
    rw [hn] at hlength
    exact ⟨d, sr, k, n, body, hcrc, by simpa using hlength⟩

theorem frame_eq (f : RxFrame) : f.frame =
    [f.dest, f.source, f.message.kindCode, numByte f.message.body.length] ++ f.message.body
      ++ bytes16 (crc16 ([f.dest, f.source, f.message.kindCode, numByte f.message.body.length] ++ f.message.body)) := rfl

theorem body_length_le (m : FieldMessage) : m.body.length ≤ 16 := by
  cases m with
  | resolve requester question => cases question <;> exact Nat.le_of_ble_eq_true rfl
  | announce id cls preferred => exact Nat.le_of_ble_eq_true rfl
  | accept id nonce a => exact Nat.le_of_ble_eq_true rfl
  | decline id nonce => exact Nat.le_of_ble_eq_true rfl
  | heartbeat id => exact Nat.le_of_ble_eq_true rfl
  | release id => exact Nat.le_of_ble_eq_true rfl

theorem numByte_body (m : FieldMessage) : m.body.length = (numByte m.body.length).toNat :=
  (numByte_toNat (lt_of_le_of_lt (body_length_le m) (by decide))).symm

/-- An intact frame carries a message of a module exactly when it is that message's frame. -/
theorem contentCheck_of_intact {bytes : List Byte} {e : Bool} (h : Intact bytes e) {f : RxFrame} :
    contentCheck bytes = some f ↔ f.lawful ∧ bytes = f.frame := by
  obtain ⟨d, sr, k, n, body, rfl, hbody⟩ := intact_parts h
  rw [contentCheck_eq_some hbody]
  refine and_congr_right fun _ => ⟨?_, fun heq => ?_⟩
  · rintro ⟨rfl, rfl, rfl, rfl⟩
    rw [frame_eq, hbody, numByte, BitVec.ofNat_toNat, BitVec.setWidth_eq]
  · rw [frame_eq, List.append_assoc, List.append_assoc] at heq
    obtain ⟨rfl, heq⟩ := List.cons.inj heq
    obtain ⟨rfl, heq⟩ := List.cons.inj heq
    obtain ⟨rfl, heq⟩ := List.cons.inj heq
    obtain ⟨hn, heq⟩ := List.cons.inj heq
    rw [hn, ← numByte_body] at hbody
    exact ⟨rfl, rfl, rfl, List.append_inj_left heq hbody⟩

/-- The frame of a message is intact. -/
theorem frame_intact (f : RxFrame) : Intact f.frame false := by
  have hcovered : f.frame.dropLast.dropLast =
      [f.dest, f.source, f.message.kindCode, numByte f.message.body.length] ++ f.message.body := by
    rw [dropLast_dropLast, frame_eq, List.length_append]
    exact List.take_left' rfl
  refine ⟨rfl, ?_, ?_⟩
  · rw [hcovered, ← frame_eq]
  · rw [hcovered, List.length_append, show f.frame.getD 3 0 = numByte f.message.body.length from rfl, ← numByte_body]
    exact Nat.add_comm _ _

/-! ### The frame on the line (R155) -/

theorem offerFrame_of_empty {c : SegCtl} (f : RxFrame) (h : c.rx.length = 0) : c.offerFrame f = { c with rx := [f] } := by
  rw [SegCtl.offerFrame, h, List.eq_nil_of_length_eq_zero h]
  rfl

theorem offerFrame_of_one {c : SegCtl} (f : RxFrame) (h : c.rx.length = 1) :
    c.offerFrame f = { c with rx := c.rx ++ [f], state := .hushed } := by
  rw [SegCtl.offerFrame, h]
  rfl

theorem offerFrame_of_full {c : SegCtl} (f : RxFrame) (h : 2 ≤ c.rx.length) : c.offerFrame f = { c with overflow := true } :=
  if_pos h

/-- A frame completed while it is received: over its length, or judged by the filter. -/
theorem frameComplete_eq {s : State} {n : SegNo} (hup : s.segs[n].state = .listening ∨ s.segs[n].state = .hushed)
    (hr : s.segs[n].receiver = .receiving) (line : List Level) : exec (.frameComplete n line) s = .next (s.withSeg n
      (if 320 < (lineDecode line).1.length then { s.segs[n].overLength with monitor := .quiet }
        else SegCtl.filterFrame { s.segs[n] with receiver := .ready, monitor := .quiet } (wholeBytes (lineDecode line).1)
          (lineDecode line).2)) :=
  congrArg (fun c => Host.Outcome.next (s.withSeg n c)) (if_pos ⟨SegCtl.enabled_iff.mpr hup, hr⟩)

theorem filterFrame_of_fragment {bytes : List Byte} (c : SegCtl) (e : Bool) (h : bytes.length < 4) :
    c.filterFrame bytes e = c := by
  rw [SegCtl.filterFrame, integrity_of_fragment h]

theorem filterFrame_of_not_intact {bytes : List Byte} (c : SegCtl) {e : Bool} (hmin : 4 ≤ bytes.length)
    (hmax : bytes.length ≤ 40) (h : ¬Intact bytes e) : c.filterFrame bytes e = { c with rxError := true } := by
  rw [SegCtl.filterFrame, integrity_of_not_intact hmin hmax h]

theorem filterFrame_of_none {bytes : List Byte} (c : SegCtl) {e : Bool} (hmin : 4 ≤ bytes.length)
    (hmax : bytes.length ≤ 40) (h : Intact bytes e) (hnone : contentCheck bytes = none) : c.filterFrame bytes e = c := by
  rw [SegCtl.filterFrame, (intact_iff hmin hmax).mp h]
  simp only
  rw [hnone]

theorem filterFrame_of_some {bytes : List Byte} (c : SegCtl) {e : Bool} {f : RxFrame} (hmin : 4 ≤ bytes.length)
    (hmax : bytes.length ≤ 40) (h : Intact bytes e) (hsome : contentCheck bytes = some f) :
    c.filterFrame bytes e = c.offerFrame f := by
  rw [SegCtl.filterFrame, (intact_iff hmin hmax).mp h]
  simp only
  rw [hsome]

theorem frame_length (f : RxFrame) : f.frame.length = f.message.body.length + 6 := by
  rw [frame_eq, List.length_append, List.length_append]
  show 4 + _ + 2 = _
  omega

/-- The frame of a lawful message meets the receive queue. -/
theorem filterFrame_frame (c : SegCtl) {f : RxFrame} (hf : f.lawful) : c.filterFrame f.frame false = c.offerFrame f := by
  have hle := body_length_le f.message
  have hlength := frame_length f
  exact filterFrame_of_some c (by omega) (by omega) (frame_intact f) ((contentCheck_of_intact (frame_intact f)).mpr ⟨hf, rfl⟩)

/-- Settles O49: the codes, and the frame judged by its length, its integrity and its contents. -/
theorem filterJudgesFrames : Obligations.FilterJudgesFrames := by
  refine ⟨crc16_bits, bytes16_eq, idBytes_eq, fun m => (fieldMessage_codes m).trans ?_, fun f => rfl,
    fun s n line hup hr => ?_⟩
  · rfl
  have hexec := frameComplete_eq hup hr line
  have hbytes := wholeBytes_length (lineDecode line).1
  refine ⟨fun hover => ?_, fun hle hfragment => ?_, fun hle hmin hbad => ?_, fun hle hmin hintact hnone => ?_,
    fun f hcode hle hf hframe => ?_⟩
  · rw [if_pos hover] at hexec; exact hexec
  all_goals rw [if_neg (Nat.not_lt.mpr hle)] at hexec
  · rw [filterFrame_of_fragment _ _ hfragment] at hexec; exact hexec
  · rw [filterFrame_of_not_intact _ hmin (by omega) hbad] at hexec; exact hexec
  · have hcontent : contentCheck (wholeBytes (lineDecode line).1) = none := by
      refine Option.eq_none_iff_forall_ne_some.mpr fun f hsome => ?_
      obtain ⟨hf, hframe⟩ := (contentCheck_of_intact hintact).mp hsome
      exact hnone f hf hframe
    rw [filterFrame_of_none _ hmin (by omega) hintact hcontent] at hexec; exact hexec
  · rw [hframe, hcode, filterFrame_frame _ hf] at hexec
    refine ⟨fun hlen => ?_, fun hlen => ?_, fun hlen => ?_⟩
    · rw [offerFrame_of_empty f hlen] at hexec; exact hexec
    · rw [offerFrame_of_one f hlen] at hexec; exact hexec
    · rw [offerFrame_of_full f hlen] at hexec; exact hexec

theorem frameBits_length (bytes : List Byte) : (frameBits bytes).length = 8 * bytes.length := by
  induction bytes with
  | nil => rfl
  | cons b bytes ih =>
    have h : frameBits (b :: bytes) = byteBits b ++ frameBits bytes := List.flatMap_cons
    rw [h, List.length_append, ih, List.length_cons, show (byteBits b).length = 8 from rfl]
    omega

/-- Settles O51: the line code is read back, and the frame passes the filter. -/
theorem moduleFrameArrives : Obligations.ModuleFrameArrives := by
  intro s n f hf hup hr hroom
  have hexec := frameComplete_eq hup hr (lineCode f.frame)
  have hlength := frame_length f
  have hbody := body_length_le f.message
  rw [lineDecode_lineCode, wholeBytes_frameBits, filterFrame_frame _ hf, frameBits_length, if_neg (by omega)] at hexec
  have hseg (c : SegCtl) : (s.withSeg n c).segs[n] = c := by rw [withSeg_getElem, if_pos rfl]
  refine ⟨_, hexec, by rw [hseg]; rfl, (hseg _).trans ?_⟩
  have hcount : s.segs[n].rx.length = 0 ∨ s.segs[n].rx.length = 1 := by omega
  rcases hcount with h | h
  · have hnil := List.eq_nil_of_length_eq_zero h
    refine (offerFrame_of_empty (c := { s.segs[n] with receiver := .ready, monitor := .quiet }) f h).trans ?_
    rw [if_pos hnil, hnil]
    rfl
  · refine (offerFrame_of_one (c := { s.segs[n] with receiver := .ready, monitor := .quiet }) f h).trans ?_
    rw [if_neg fun hnil => absurd (hnil ▸ h) (by decide)]

end Sys2Proof.Machine
end

section
/-! PROOF. What a frame taken on a segment does, whatever its kind (R57, R96, R156), and HEARTBEAT and RELEASE (R125 to
R130): O40 and O41. -/

namespace Sys2Proof.Machine

/-! ### A frame taken -/

theorem onFrame_of_takes {s t : State} {n : SegNo} {source : Address} {m : FieldMessage} (h : s.segTakes n source m)
    {run : Address → FieldMessage → State → Option State} (hrun : run source m (s.takeFrame n) = some t) :
    s.onFrame n run = t := by
  obtain ⟨dest, h⟩ := h
  rw [State.onFrame, h]
  show (if n = n then (run source m (s.takeFrame n)).getD s else s) = t
  rw [if_pos rfl, hrun]
  rfl

theorem takeFrame_seg (s : State) (n : SegNo) : (s.takeFrame n).segs[n] = s.segs[n].takeFrame := by
  rw [State.takeFrame, withSeg_getElem, if_pos rfl]

/-- A frame taken releases HUSH, and the controller stays enabled, or down. -/
theorem enabled_takeFrame (c : SegCtl) : c.takeFrame.enabled = c.enabled := by
  unfold SegCtl.takeFrame SegCtl.enabled
  cases c.state <;> rfl

theorem room_takeFrame (s : State) (n : SegNo) : (s.takeFrame n).segs[n].room = s.segs[n].room := by
  rw [takeFrame_seg, SegCtl.room, enabled_takeFrame]
  rfl

theorem hasRoom_iff {s : State} {n : SegNo} : s.hasRoom n ↔ s.segs[n].room = true := by
  rw [SegCtl.room_iff, SegCtl.enabled_iff]

theorem hasRoom_takeFrame {s : State} {n : SegNo} : (s.takeFrame n).hasRoom n ↔ s.hasRoom n := by
  rw [hasRoom_iff, hasRoom_iff, room_takeFrame]

/-! ### An answer that must find room (R96) -/

section
variable {done orig v : State} {n : SegNo}

theorem replyOr_of_room (hsegs : done.segs = v.segs) (hroom : v.hasRoom n) (dest : Address) (m : Message) :
    done.replyOr orig n dest m = { done with segs := (v.place n dest m).segs } := by
  have hv := hasRoom_iff.mp hroom
  rw [State.replyOr, State.place, hsegs, if_pos hv, if_pos hv, State.withSeg, hsegs]
  rfl

theorem replyOr_of_full (hsegs : done.segs = v.segs) (hroom : ¬v.hasRoom n) (horig : ¬orig.hasRoom n) (dest : Address)
    (m : Message) : done.replyOr orig n dest m = orig.place n dest m := by
  rw [hasRoom_iff] at hroom horig
  rw [State.replyOr, State.place, hsegs, if_neg hroom, if_neg horig]

end

/-- An operation on one record that must find room for its answer: the record takes its new content and the answer is
queued, or nothing happens but OVERFLOW. -/
theorem changed_and_answered {s : State} {c : Instr} {n : SegNo} {dest : Address} {m : Message} {i : RecNo} {new r : Record}
    (hexec : exec c s = .next (((s.takeFrame n).changeRecord i new).replyOr (s.takeFrame n) n dest m))
    (hr : s.records[i].changed new = r) :
    (s.hasRoom n →
        ∃ t, exec c s = .next t
          ∧ t = { s.takeFrame n with
              engine := { (s.takeFrame n).engine with attnCount := t.engine.attnCount }
              records := t.records, groups := t.groups, segs := ((s.takeFrame n).place n dest m).segs }
          ∧ RecordBecomes s t i r)
      ∧ (¬s.hasRoom n → exec c s = .next ((s.takeFrame n).place n dest m)) := by
  refine ⟨fun hroom => ?_, fun hfull => ?_⟩
  · rw [replyOr_of_room (done := (s.takeFrame n).changeRecord i new) (v := s.takeFrame n) rfl (hasRoom_takeFrame.mpr hroom)] at hexec
    exact ⟨_, hexec, rfl, changeRecord_becomes hr rfl⟩
  · have hfull := mt hasRoom_takeFrame.mp hfull
    rw [hexec, replyOr_of_full (done := (s.takeFrame n).changeRecord i new) (v := s.takeFrame n) rfl hfull hfull]

/-! ### What a record becomes -/

section
variable {r : Record}

/-- A refresh with a reason: the generation moves on exactly when the record was not ACTIVE before. -/
theorem changed_refresh {lease attention : Byte} (hlease : r.lease = some lease) :
    r.changed { r.refresh with attention := attention } = { r with
      state := .active, ticks := lease, attention := attention
      generation := if r.state = .active then r.generation else nextGeneration r.generation } := by
  by_cases hst : r.state = .active
  · rw [if_pos hst, changed_of_same (by simp [Record.sameTracked, Record.refresh, hst]), Record.refresh, hlease]
    rfl
  · rw [if_neg hst, changed_of_state_ne (show r.state ≠ _ from hst), Record.refresh, hlease]
    rfl

theorem changed_charge : r.changed r.charge = { r with
    conflicts := if r.conflicts = 15 then 15 else r.conflicts + 1, attention := r.attention ||| 0x40
    generation := if r.conflicts = 15 then r.generation else nextGeneration r.generation } := by
  by_cases hmax : r.conflicts = 15
  · rw [changed_of_same (by simp [Record.sameTracked, Record.charge, Record.notify, hmax, Config.maxConflicts]), Record.charge,
      if_pos (show r.conflicts = Config.maxConflicts from hmax), if_pos hmax, if_pos hmax, hmax]
    rfl
  · rw [Record.charge, if_neg (show ¬r.conflicts = Config.maxConflicts from hmax), if_neg hmax, if_neg hmax, changed_eq, if_neg]
    · rfl
    · simp [Record.sameTracked, Record.notify]

end

/-! ### The record that a source address is bound to (R125, R133) -/

theorem boundLive_iff {s : State} {n : SegNo} {a : Address} (ha : assignable a = true) {i : RecNo} :
    s.boundLive n a = some i ↔ s.pool.map[a.toFin] = .bound i
      ∧ (s.records[i].state = .active ∨ s.records[i].state = .stale) ∧ s.records[i].segment = some n := by
  rw [← placeOf_of_assignable s.pool ha, ← live_iff]
  refine ⟨boundLive_eq_some, fun ⟨hplace, hlive, hseg⟩ => ?_⟩
  rw [State.boundLive, hplace]
  exact if_pos ⟨hlive, hseg⟩

/-- No record answers for the source. -/
theorem boundLive_eq_none {s : State} {n : SegNo} {a : Address} (ha : assignable a = true)
    (h : ∀ i : RecNo, ¬(s.pool.map[a.toFin] = .bound i
      ∧ (s.records[i].state = .active ∨ s.records[i].state = .stale) ∧ s.records[i].segment = some n)) :
    s.boundLive n a = none :=
  Option.eq_none_iff_forall_ne_some.mpr fun i hi => h i ((boundLive_iff ha).mp hi)

/-! ### HEARTBEAT (R125 to R128) -/

theorem heartbeat_of_takes {s : State} {n : SegNo} {a : Address} {id : ModuleId} (h : s.segTakes n a (.heartbeat id)) :
    exec (.heartbeat n) s = .next ((s.takeFrame n).heartbeatTaken n a id) :=
  congrArg Host.Outcome.next (onFrame_of_takes h rfl)

theorem heartbeatTaken_of_stopped {s : State} {n : SegNo} {a : Address} {id : ModuleId} (h : s.engine.mode ≠ .running) :
    s.heartbeatTaken n a id = s := by
  unfold State.heartbeatTaken
  split
  · rfl
  · rfl
  · next hm => exact absurd hm h

theorem heartbeatTaken_of_running {s : State} {n : SegNo} {a : Address} {id : ModuleId} (h : s.engine.mode = .running) :
    s.heartbeatTaken n a id = s.heartbeatRunning n a id := by
  rw [State.heartbeatTaken, h]

theorem heartbeatRunning_of_unbound {s : State} {n : SegNo} {a : Address} {id : ModuleId} (h : s.boundLive n a = none) :
    s.heartbeatRunning n a id = s.place n a (.revoke id a) := by
  rw [State.heartbeatRunning, h]

theorem heartbeatRunning_of_bound {s : State} {n : SegNo} {a : Address} {id : ModuleId} {i : RecNo}
    (h : s.boundLive n a = some i) : s.heartbeatRunning n a id =
      if s.records[i].id = some id then s.changeRecord i s.records[i].refresh
      else (s.changeRecord i s.records[i].charge).replyOr s n a (.revoke id a) := by
  rw [State.heartbeatRunning, h]

/-- Settles O40: the source unbound, bound to its own record, or to another's. -/
theorem heartbeatRefreshesOrRevokes : Obligations.HeartbeatRefreshesOrRevokes := by
  intro s n a id h h0 hF u holds
  have ha : assignable a = true := assignable_iff_le.mpr ⟨h0, hF⟩
  have htaken := heartbeat_of_takes h
  refine ⟨fun hm => ?_, fun hm => ⟨fun hnone => ?_, fun i lease hi hid hlease => ?_, fun i hi hid => ?_⟩⟩
  · rw [htaken, heartbeatTaken_of_stopped (s := s.takeFrame n) hm]
  · rw [htaken, heartbeatTaken_of_running (s := s.takeFrame n) hm,
      heartbeatRunning_of_unbound (boundLive_eq_none (s := s.takeFrame n) ha hnone)]
  · rw [heartbeatTaken_of_running (s := s.takeFrame n) hm,
      heartbeatRunning_of_bound ((boundLive_iff (s := s.takeFrame n) ha).mpr hi),
      if_pos (show (s.takeFrame n).records[i].id = some id from hid)] at htaken
    exact ⟨_, htaken, rfl, changeRecord_becomes (changed_refresh hlease) rfl⟩
  · rw [heartbeatTaken_of_running (s := s.takeFrame n) hm,
      heartbeatRunning_of_bound ((boundLive_iff (s := s.takeFrame n) ha).mpr hi),
      if_neg (show ¬(s.takeFrame n).records[i].id = some id from hid)] at htaken
    exact changed_and_answered htaken changed_charge

/-! ### RELEASE (R129, R130) -/

theorem release_of_takes {s : State} {n : SegNo} {a : Address} {id : ModuleId} (h : s.segTakes n a (.release id)) :
    exec (.release n) s = .next ((s.takeFrame n).releaseTaken n a id) :=
  congrArg Host.Outcome.next (onFrame_of_takes h rfl)

theorem releaseTaken_of_stopped {s : State} {n : SegNo} {a : Address} {id : ModuleId} (h : s.engine.mode ≠ .running) :
    s.releaseTaken n a id = s := by
  unfold State.releaseTaken
  split
  · rfl
  · rfl
  · next hm => exact absurd hm h

theorem releaseTaken_of_running {s : State} {n : SegNo} {a : Address} {id : ModuleId} (h : s.engine.mode = .running) :
    s.releaseTaken n a id = s.releaseRunning n a id := by
  rw [State.releaseTaken, h]

theorem releaseRunning_of_unbound {s : State} {n : SegNo} {a : Address} {id : ModuleId} (h : s.boundLive n a = none) :
    s.releaseRunning n a id = s.place n a (.revoke id a) := by
  rw [State.releaseRunning, h]

theorem releaseRunning_of_bound {s : State} {n : SegNo} {a : Address} {id : ModuleId} {i : RecNo}
    (h : s.boundLive n a = some i) :
    s.releaseRunning n a id = if s.records[i].id = some id then s.endBinding i .released else s := by
  rw [State.releaseRunning, h]

/-- The end of a binding moves the record, its counts and the pool alone. -/
theorem endBinding_frame (s : State) (i : RecNo) (why : Reason) : s.endBinding i why = { s with
    engine := { s.engine with attnCount := (s.endBinding i why).engine.attnCount }
    records := (s.endBinding i why).records, groups := (s.endBinding i why).groups
    pool := (s.endBinding i why).pool } := by
  by_cases h : s.records[i].kind = .static
  · rw [endBinding_of_static h]; rfl
  · rw [endBinding_of_other h, holdAddressOf_frame]; rfl

/-- Settles O41: the source unbound, bound to another's record, or to its own, which ends by its kind. -/
theorem releaseEndsBinding : Obligations.ReleaseEndsBinding := by
  intro s n a id h h0 hF u holds
  have ha : assignable a = true := assignable_iff_le.mpr ⟨h0, hF⟩
  have htaken := release_of_takes h
  refine ⟨fun hm => ?_, fun hm => ⟨fun hnone => ?_, fun i hi hid => ?_, fun i hi hid haddress => ?_⟩⟩
  · rw [htaken, releaseTaken_of_stopped (s := s.takeFrame n) hm]
  · rw [htaken, releaseTaken_of_running (s := s.takeFrame n) hm,
      releaseRunning_of_unbound (boundLive_eq_none (s := s.takeFrame n) ha hnone)]
  · rw [htaken, releaseTaken_of_running (s := s.takeFrame n) hm,
      releaseRunning_of_bound ((boundLive_iff (s := s.takeFrame n) ha).mpr hi),
      if_neg (show ¬(s.takeFrame n).records[i].id = some id from hid)]
  · rw [releaseTaken_of_running (s := s.takeFrame n) hm,
      releaseRunning_of_bound ((boundLive_iff (s := s.takeFrame n) ha).mpr hi),
      if_pos (show (s.takeFrame n).records[i].id = some id from hid)] at htaken
    obtain ⟨_, hlive, _⟩ := hi
    have hne {st : RecState} (hactive : st ≠ .active) (hstale : st ≠ .stale) : s.records[i].state ≠ st := by
      rintro rfl
      exact hlive.elim hactive hstale
    refine ⟨_, htaken, endBinding_frame .., fun hkind => ?_, fun hkind => ?_⟩
    · obtain ⟨hbecomes, _, hpool⟩ := endBinding_dynamic (s := s.takeFrame n) (i := i) (r := s.records[i]) rfl
        (hne nofun nofun) (by rw [hkind]; nofun) haddress .released
      rw [hid] at hpool
      exact ⟨hpool, hbecomes⟩
    · obtain ⟨hbecomes, _, hpool⟩ := endBinding_static (s := s.takeFrame n) (i := i) (r := s.records[i]) rfl
        (hne nofun nofun) hkind .released
      exact ⟨hpool, hbecomes⟩

end Sys2Proof.Machine
end

section
/-! PROOF. The three RESOLVE requests (R132 to R141): O42. -/

namespace Sys2Proof.Machine

/-! ### The candidates of a group reply, in ascending order (R141) -/

theorem mem_insertAscending {a b : Address} {l : List Address} : b ∈ insertAscending a l ↔ b = a ∨ b ∈ l := by
  induction l with
  | nil => simp [insertAscending]
  | cons x xs ih =>
    rw [insertAscending]
    split
    · exact List.mem_cons
    · rw [List.mem_cons, ih, List.mem_cons]
      exact or_left_comm

theorem insertAscending_ascending {a : Address} {l : List Address} (hl : l.Pairwise (· < ·)) (ha : a ∉ l) :
    (insertAscending a l).Pairwise (· < ·) := by
  induction l with
  | nil => exact List.pairwise_singleton ..
  | cons x xs ih =>
    obtain ⟨hx, hxs⟩ := List.pairwise_cons.mp hl
    obtain ⟨hax, haxs⟩ := List.ne_and_not_mem_of_not_mem_cons ha
    rw [insertAscending]
    split
    · next hle =>
      have hlt : a < x := by bv_omega
      refine List.pairwise_cons.mpr ⟨fun b hb => ?_, hl⟩
      rcases List.mem_cons.mp hb with rfl | hb
      · exact hlt
      · exact BitVec.lt_trans hlt (hx b hb)
    · next hle =>
      refine List.pairwise_cons.mpr ⟨fun b hb => ?_, ih hxs haxs⟩
      rcases mem_insertAscending.mp hb with rfl | hb
      · bv_omega
      · exact hx b hb

theorem mem_foldr_insertAscending {b : Address} {l : List Address} : b ∈ l.foldr insertAscending [] ↔ b ∈ l := by
  induction l with
  | nil => rfl
  | cons x xs ih => rw [List.foldr_cons, mem_insertAscending, ih, List.mem_cons]

theorem foldr_insertAscending_ascending {l : List Address} (hl : l.Nodup) :
    (l.foldr insertAscending []).Pairwise (· < ·) := by
  induction l with
  | nil => exact List.Pairwise.nil
  | cons x xs ih =>
    obtain ⟨hx, hxs⟩ := List.nodup_cons.mp hl
    exact insertAscending_ascending (ih hxs) (mt mem_foldr_insertAscending.mp hx)

theorem seen_iff {s : State} {n : SegNo} {r : Record} : s.seen n r = true ↔
    (r.state = .active ∨ r.state = .stale)
      ∧ ∃ m, r.segment = some m ∧ s.policy[n].visible.getLsbD m.val = true := by
  rw [State.seen, Bool.and_eq_true, live_iff, Option.any_eq_true]

theorem candidate_eq_some {s : State} {n : SegNo} {g : GroupNo} {start b : Address} {r : Record} :
    s.candidate n g start r = some b ↔
      s.seen n r = true ∧ r.groups.getLsbD g.val = true ∧ r.address = some b ∧ start < b := by
  rw [State.candidate]
  split
  · next h => rw [Option.filter_eq_some_iff, decide_eq_true_iff]; simp [h]
  · next h =>
    refine iff_of_false nofun fun ⟨hseen, hgroup, _⟩ => h ⟨hseen, hgroup⟩

theorem candidates_eq (s : State) (n : SegNo) (g : GroupNo) (start : Address) : s.candidates n g start =
    ((List.finRange 256).filterMap fun i => s.candidate n g start s.records[i]).foldr insertAscending [] := by
  rw [State.candidates, toList_eq_map_finRange, List.filterMap_map]
  rfl

theorem mem_candidates {s : State} {n : SegNo} {g : GroupNo} {start b : Address} : b ∈ s.candidates n g start ↔
    ∃ i : RecNo, s.seen n s.records[i] = true ∧ s.records[i].groups.getLsbD g.val = true
      ∧ s.records[i].address = some b ∧ start < b := by
  rw [candidates_eq, mem_foldr_insertAscending, List.mem_filterMap]
  exact exists_congr fun i => (and_iff_right (List.mem_finRange i)).trans candidate_eq_some

/-- Over tables that agree, a live record's address is bound to it alone. -/
theorem bound_of_seen {s : State} (hs : TablesAgree s) {n : SegNo} {i : RecNo} {a : Address}
    (hseen : s.seen n s.records[i] = true) (ha : s.records[i].address = some a) : s.pool.map[a.toFin] = .bound i := by
  obtain ⟨_, _, hcomplete, haddresses⟩ := hs
  exact (haddresses a i).2.mpr ⟨bound_of_live (live_iff.mpr (seen_iff.mp hseen).1) (hcomplete i), ha⟩

theorem candidates_ascending {s : State} (hs : TablesAgree s) (n : SegNo) (g : GroupNo) (start : Address) :
    (s.candidates n g start).Pairwise (· < ·) := by
  rw [candidates_eq]
  refine foldr_insertAscending_ascending ((List.nodup_finRange 256).filterMap fun i j b hi hj => ?_)
  obtain ⟨hseeni, _, hai, _⟩ := candidate_eq_some.mp hi
  obtain ⟨hseenj, _, haj, _⟩ := candidate_eq_some.mp hj
  have hij := (bound_of_seen hs hseeni hai).symm.trans (bound_of_seen hs hseenj haj)
  injection hij

/-! ### The source-binding check (R133) -/

theorem sourceBound_iff {s : State} {n : SegNo} {a : Address} (ha : assignable a = true) {id : ModuleId} :
    s.sourceBound n a id = true ↔ ∃ i : RecNo, s.pool.map[a.toFin] = .bound i
      ∧ (s.records[i].state = .active ∨ s.records[i].state = .stale) ∧ s.records[i].segment = some n
      ∧ s.records[i].id = some id := by
  rw [State.sourceBound, Option.any_eq_true]
  refine exists_congr fun i => ?_
  rw [boundLive_iff ha, beq_iff_eq, and_assoc, and_assoc]

theorem resolveTaken_of_bound {s : State} {n : SegNo} {a : Address} {requester : ModuleId} (q : Question)
    (h : s.sourceBound n a requester = true) :
    s.resolveTaken n a requester q = s.place n a (.reply requester q (s.resolve n q)) := if_pos h

theorem resolveTaken_of_unbound {s : State} {n : SegNo} {a : Address} {requester : ModuleId} (q : Question)
    (h : ¬s.sourceBound n a requester = true) : s.resolveTaken n a requester q = s.place n a (.revoke requester a) :=
  if_neg h

/-! ### The three questions (R138 to R141) -/

section
variable {s : State} {n : SegNo}

theorem resolveById_of_seen {target : ModuleId} {i : RecNo} {b : Address} (hi : s.lookup target = some i)
    (hseen : s.seen n s.records[i] = true) (hb : s.records[i].address = some b) : s.resolveById n target = .address b := by
  rw [State.resolveById, hi]
  exact (if_pos hseen).trans (by rw [hb]; rfl)

theorem resolveById_of_unseen {target : ModuleId}
    (h : ∀ i : RecNo, s.lookup target = some i → ¬s.seen n s.records[i] = true) : s.resolveById n target = .unknown := by
  rw [State.resolveById]
  split
  · next i hi => exact if_neg (h i hi)
  · rfl

theorem resolveByAddress_of_seen {target : Address} {i : RecNo} {id : ModuleId} (hi : s.pool.placeOf target = .bound i)
    (hseen : s.seen n s.records[i] = true) (hid : s.records[i].id = some id) : s.resolveByAddress n target = .id id := by
  rw [State.resolveByAddress, hi]
  exact (if_pos hseen).trans (by rw [hid]; rfl)

theorem resolveByAddress_of_unseen {target : Address}
    (h : ∀ i : RecNo, s.pool.placeOf target = .bound i → ¬s.seen n s.records[i] = true) :
    s.resolveByAddress n target = .unknown := by
  rw [State.resolveByAddress]
  split
  · next i hi => exact if_neg (h i hi)
  · rfl

theorem resolveByGroup_of_no_group {g : Byte} (start : Address) (h : 16 ≤ g.toNat) :
    s.resolveByGroup n g start = .unknown := dif_neg (Nat.not_lt.mpr h)

theorem resolveByGroup_of_group {g : Byte} (start : Address) {k : GroupNo} (hk : g.toNat = k.val) :
    s.resolveByGroup n g start =
      if s.groups[k].enabled = true ∧ s.groups[k].mask.getLsbD n.val = true then
        .group ((s.candidates n k start).take 16) (decide (16 < (s.candidates n k start).length))
      else .unknown := by
  have hlt : g.toNat < 16 := hk ▸ k.isLt
  obtain rfl : k = ⟨g.toNat, hlt⟩ := Fin.ext hk.symm
  exact dif_pos hlt

end

/-! ### The obligation -/

/-- Settles O42: the source-binding check, and the result of each kind of question. -/
theorem resolveAnswersVisibleRecords : Obligations.ResolveAnswersVisibleRecords := by
  intro s n a requester q h h0 hF hs c u live seen bound
  have ha : assignable a = true := assignable_iff_le.mpr ⟨h0, hF⟩
  have hbound : u.sourceBound n a requester = true ↔ bound := sourceBound_iff (s := u) ha
  have hseen (i : RecNo) : u.seen n u.records[i] = true ↔ seen i := seen_iff (s := u)
  have hplace (b : Address) : u.pool.placeOf b = s.pool.map[b.toFin] := placeOf_eq_map hs.1 b
  have htaken : exec c s = .next (u.resolveTaken n a requester q) := by
    cases q with
    | byId target => exact congrArg Host.Outcome.next (onFrame_of_takes h rfl)
    | byAddress target => exact congrArg Host.Outcome.next (onFrame_of_takes h rfl)
    | byGroup g start => exact congrArg Host.Outcome.next (onFrame_of_takes h rfl)
  refine ⟨fun hno => ?_, fun hyes => ⟨u.resolve n q, ?_, ?_, ?_, ?_⟩⟩
  · rw [htaken, resolveTaken_of_unbound q (mt hbound.mp hno)]
  · rw [htaken, resolveTaken_of_bound q (hbound.mpr hyes)]
  · rintro target rfl
    exact ⟨fun i b hi hi' hb => resolveById_of_seen (s := u) hi ((hseen i).mpr hi') hb,
      fun hno => resolveById_of_unseen (s := u) fun i hi => mt (hseen i).mp (hno i hi)⟩
  · rintro target rfl
    refine ⟨fun i id hi hi' hid => resolveByAddress_of_seen (s := u) ((hplace target).trans hi) ((hseen i).mpr hi') hid,
      fun hno => resolveByAddress_of_unseen (s := u) fun i hi => mt (hseen i).mp (hno i ((hplace target).symm.trans hi))⟩
  · rintro g start rfl
    refine ⟨resolveByGroup_of_no_group start, fun k hk => ⟨fun hoff => ?_, fun hon hmask => ?_⟩⟩
    · refine (resolveByGroup_of_group (s := u) start hk).trans (if_neg fun ⟨hon, hmask⟩ => ?_)
      rcases hoff with hoff | hoff
      · exact Bool.eq_false_iff.mp hoff hon
      · exact Bool.eq_false_iff.mp hoff hmask
    · refine ⟨u.candidates n k start, candidates_ascending (s := u) hs n k start, fun b => ?_,
        (resolveByGroup_of_group (s := u) start hk).trans (if_pos ⟨hon, hmask⟩)⟩
      rw [mem_candidates]
      exact exists_congr fun i => and_congr_left' (hseen i)

end Sys2Proof.Machine
end

section
/-! PROOF. ANNOUNCE for an ID that no record holds (R77 to R80, R97, R102, R103): O34 and O35. -/

namespace Sys2Proof.Machine

/-! ### The rule that matches (R77) -/

/-- A shift to the right leaves nothing exactly when the leading bits are zero. -/
theorem ushiftRight_eq_zero_iff {x : BitVec 64} {len : Nat} :
    x >>> (64 - len) = 0 ↔ ∀ k, k < len → x.getMsbD k = false := by
  constructor
  · intro h k hk
    rw [BitVec.getMsbD_eq_getLsbD]
    by_cases hk64 : k < 64
    · have hbit : (x >>> (64 - len)).getLsbD (63 - k - (64 - len)) = false := by rw [h]; exact BitVec.getLsbD_zero
      rw [BitVec.getLsbD_ushiftRight, show 64 - len + (63 - k - (64 - len)) = 64 - 1 - k by omega] at hbit
      rw [hbit, Bool.and_false]
    · rw [decide_eq_false hk64, Bool.false_and]
  · intro h
    refine BitVec.eq_of_getLsbD_eq fun i hi => ?_
    rw [BitVec.getLsbD_ushiftRight]
    refine Eq.trans ?_ BitVec.getLsbD_zero.symm
    by_cases hin : 64 - len + i < 64
    · have hbit := h (63 - (64 - len + i)) (by omega)
      rw [BitVec.getMsbD_eq_getLsbD, decide_eq_true (show 63 - (64 - len + i) < 64 by omega), Bool.true_and,
        show 64 - 1 - (63 - (64 - len + i)) = 64 - len + i by omega] at hbit
      exact hbit
    · exact BitVec.getLsbD_of_ge _ _ (Nat.not_lt.mp hin)

theorem matchesId_iff {r : Rule} {n : SegNo} {id : ModuleId} : r.matchesId n id = true ↔ r.covers n id := by
  rw [Rule.matchesId, Bool.and_eq_true, Bool.and_eq_true, beq_iff_eq, ushiftRight_eq_zero_iff, and_assoc]
  simp only [BitVec.getMsbD_xor, bne_eq_false_iff_eq]

section
variable {s : State} {n : SegNo} {id : ModuleId}

theorem firstMatch_of_first {k : RuleNo} (h : s.firstCovers n id k) : s.firstMatch n id = some k := by
  obtain ⟨hcovers, hleast⟩ := h
  refine (find?_eq_some_iff_least (List.pairwise_lt_finRange 16)).mpr
    ⟨List.mem_finRange k, matchesId_iff.mpr hcovers, fun j _ hj => ?_⟩
  exact Bool.eq_false_iff.mpr (mt matchesId_iff.mp (hleast j hj))

theorem firstMatch_of_none (h : s.noneCovers n id) : s.firstMatch n id = none :=
  List.find?_eq_none.mpr fun k _ => mt matchesId_iff.mp (h k)

/-! ### Evaluation (R78 to R80) -/

theorem evaluate_of_not_learning (h : s.policy[n].learning = false) (cls : Byte) :
    s.evaluate n id cls = .error .notAdmitted := if_pos h

theorem evaluate_of_denied (hl : s.policy[n].learning = true) {k : RuleNo} (hk : s.firstCovers n id k)
    (hdeny : s.rules[k].action = .deny) (cls : Byte) : s.evaluate n id cls = .error .denied := by
  rw [State.evaluate, if_neg (by rw [hl]; nofun), firstMatch_of_first hk]
  show (match s.rules[k].action with | .deny => _ | .permit => _) = _
  rw [hdeny]

theorem evaluate_of_default_deny (hl : s.policy[n].learning = true) (hnone : s.noneCovers n id)
    (hdeny : s.config.defaultPolicy = .deny) (cls : Byte) : s.evaluate n id cls = .error .notAdmitted := by
  rw [State.evaluate, if_neg (by rw [hl]; nofun), firstMatch_of_none hnone, hdeny]

theorem evaluate_of_admits {cls : Byte} {d : Terms} (h : s.admits n id cls d) : s.evaluate n id cls = .ok d := by
  obtain ⟨hl, ⟨k, hk, hpermit, rfl⟩ | ⟨hnone, hpermit, rfl⟩⟩ := h
  · rw [State.evaluate, if_neg (by rw [hl]; nofun), firstMatch_of_first hk]
    show (match s.rules[k].action with | .deny => _ | .permit => _) = _
    rw [hpermit]
    rfl
  · rw [State.evaluate, if_neg (by rw [hl]; nofun), firstMatch_of_none hnone, hpermit]
    rfl

end

/-! ### The lowest free slot -/

theorem firstFreeSlot_of_busy {s : State} (h : ∀ k : SlotNo, s.slots[k] ≠ none) : s.firstFreeSlot = none :=
  List.find?_eq_none.mpr fun k _ => fun hfree => h k (Option.isNone_iff_eq_none.mp hfree)

theorem firstFreeSlot_of_free {s : State} {k : SlotNo} (h : s.slots[k] = none) : ∃ j, s.firstFreeSlot = some j :=
  Option.isSome_iff_exists.mp (List.find?_isSome.mpr ⟨k, List.mem_finRange k, Option.isNone_iff_eq_none.mpr h⟩)

theorem firstFreeSlot_of_least {s : State} {k : SlotNo} (h : s.slots[k] = none) (hleast : ∀ j : SlotNo, j < k → s.slots[j] ≠ none) :
    s.firstFreeSlot = some k :=
  (find?_eq_some_iff_least (List.pairwise_lt_finRange 8)).mpr ⟨List.mem_finRange k, Option.isNone_iff_eq_none.mpr h,
    fun j _ hj => Option.isNone_eq_false_iff.mpr (Option.isSome_iff_ne_none.mpr (hleast j hj))⟩

/-! ### The cases of an ANNOUNCE (R97, R102) -/

theorem announce_of_takes {s : State} {n : SegNo} {source : Address} {id : ModuleId} {cls pref : Byte}
    (h : s.segTakes n source (.announce id cls pref)) :
    exec (.announce n) s = .next ((s.takeFrame n).announceTaken n source id cls pref) :=
  congrArg Host.Outcome.next (onFrame_of_takes h rfl)

section
variable {s : State} {n : SegNo} {source : Address} {id : ModuleId} {cls pref : Byte}

theorem announceTaken_of_halted (h : s.engine.mode = .halted) :
    s.announceTaken n source id cls pref = s.place n source (.refuse id .halted s.config.retryHint) := by
  rw [State.announceTaken, h]

theorem announceTaken_of_flushing (h : s.engine.mode = .flushing) :
    s.announceTaken n source id cls pref = s.place n source (.refuse id .busy s.config.retryHint) := by
  rw [State.announceTaken, h]

theorem announceTaken_of_running (h : s.engine.mode = .running) :
    s.announceTaken n source id cls pref = s.announceRunning n source id cls pref := by
  rw [State.announceTaken, h]

theorem announceTaken_of_new (h : s.engine.mode = .running) (hid : s.lookup id = none) :
    s.announceTaken n source id cls pref = s.announceNew n source id cls pref := by
  rw [announceTaken_of_running h, State.announceRunning, hid]

theorem announceNew_of_refused {why : Refuse} (h : s.evaluate n id cls = .error why) :
    s.announceNew n source id cls pref = s.place n source (.refuse id why 0) := by
  rw [State.announceNew, h]

variable {d : Terms} (hadmit : s.evaluate n id cls = .ok d)
include hadmit

theorem announceNew_of_claimsFull (hslot : s.firstFreeSlot = none) :
    s.announceNew n source id cls pref = s.place n source (.refuse id .claimsFull s.config.retryHint) := by
  rw [State.announceNew, hadmit]
  simp only [hslot]

theorem announceNew_of_tableFull {k : SlotNo} (hslot : s.firstFreeSlot = some k) (hway : s.placementWay id = none) :
    s.announceNew n source id cls pref = s.place n source (.refuse id .tableFull 0) := by
  rw [State.announceNew, hadmit]
  simp only [hslot, hway]

theorem announceNew_of_noAddress {k : SlotNo} (hslot : s.firstFreeSlot = some k) {i : RecNo} (hway : s.placementWay id = some i)
    (haddress : s.pool.allocateFirst d.low d.high id pref = none) :
    s.announceNew n source id cls pref = s.place n source (.refuse id .noAddress 0) := by
  rw [State.announceNew, hadmit]
  simp only [hslot, hway, haddress]

theorem announceNew_of_created {k : SlotNo} (hslot : s.firstFreeSlot = some k) {i : RecNo} (hway : s.placementWay id = some i)
    {a : Address} (haddress : s.pool.allocateFirst d.low d.high id pref = some a) :
    s.announceNew n source id cls pref =
      (s.createClaim d id n source k i a).replyOr s n source (.offer id s.engine.nonce a) := by
  rw [State.announceNew, hadmit]
  simp only [hslot, hway, haddress]

end

/-- Settles O34: the reasons in their order, each with what holds before it. -/
theorem announceRefused : Obligations.AnnounceRefused := by
  intro s n source id cls pref h refused
  have htaken := announce_of_takes h
  refine ⟨fun hm => ?_, fun hm => ?_, fun hm hid => ?_⟩
  · exact htaken.trans (congrArg _ (announceTaken_of_halted (s := s.takeFrame n) hm))
  · exact htaken.trans (congrArg _ (announceTaken_of_flushing (s := s.takeFrame n) hm))
  have hnew {t : State} (hrun : (s.takeFrame n).announceNew n source id cls pref = t) : exec (.announce n) s = .next t :=
    htaken.trans (congrArg _ ((announceTaken_of_new (s := s.takeFrame n) hm hid).trans hrun))
  refine ⟨fun hl => ?_, fun hl => ⟨fun k hk hdeny => ?_, fun hnone hdeny => ?_⟩, fun d hd => ⟨fun hbusy => ?_, fun k hk => ⟨fun hway => ?_, fun hway haddress => ?_⟩⟩⟩
  · exact hnew (announceNew_of_refused (s := s.takeFrame n) (evaluate_of_not_learning (s := s.takeFrame n) hl cls))
  · exact hnew (announceNew_of_refused (s := s.takeFrame n) (evaluate_of_denied (s := s.takeFrame n) hl hk hdeny cls))
  · exact hnew (announceNew_of_refused (s := s.takeFrame n)
      (evaluate_of_default_deny (s := s.takeFrame n) hl hnone hdeny cls))
  all_goals have hadmit := evaluate_of_admits (s := s.takeFrame n) hd
  · exact hnew (announceNew_of_claimsFull hadmit (firstFreeSlot_of_busy (s := s.takeFrame n) hbusy))
  all_goals obtain ⟨j, hj⟩ := firstFreeSlot_of_free (s := s.takeFrame n) hk
  · exact hnew (announceNew_of_tableFull hadmit hj hway)
  · obtain ⟨i, hi⟩ := Option.ne_none_iff_exists'.mp hway
    exact hnew (announceNew_of_noAddress hadmit hj hi haddress)

/-! ### A claim created (R103) -/

/-- The record of a new claim. -/
def Terms.claimed (d : Terms) (id : ModuleId) (a : Address) (n : SegNo) (k : SlotNo) : Record :=
  ⟨.dynamic, .pending, some id, some a, some n, some d.cls, 0, some d.lease, 0, 0, 0, 1, d.rule, some k⟩

theorem createClaim_frame (s : State) (d : Terms) (id : ModuleId) (n : SegNo) (source : Address) (k : SlotNo) (i : RecNo)
    (a : Address) : s.createClaim d id n source k i a = { s with
      engine := { s.engine with
        nonce := if s.engine.nonce = 0xFFFF then 1 else s.engine.nonce + 1
        attnCount := (s.setRecord i (d.claimed id a n k)).engine.attnCount }
      records := s.records.set i (d.claimed id a n k)
      groups := (s.setRecord i (d.claimed id a n k)).groups
      slots := s.slots.set k (some ⟨.sending, i, id, n, a, s.engine.nonce, 0, 0,
        s.config.offerWindow.toNat * 10, d.low, d.high, d.groups, source⟩)
      pool := s.pool.take a (.offered i)
      port := { s.port with
        flags := if s.records[i].state = .retired then s.port.flags ||| 0x04 else s.port.flags } } := by
  unfold State.createClaim
  simp only
  rw [placeRecord_frame]
  rfl

/-- Settles O35: the claim created with its OFFER queued, or nothing but OVERFLOW. -/
theorem announceCreatesClaim : Obligations.AnnounceCreatesClaim := by
  intro s n source id cls pref d k i a h hm hid hd hk hleast hway haddress u offer
  have htaken : exec (.announce n) s = .next ((u.createClaim d id n source k i a).replyOr u n source offer) :=
    (announce_of_takes h).trans (congrArg _ ((announceTaken_of_new (s := s.takeFrame n) hm hid).trans
      (announceNew_of_created (evaluate_of_admits (s := s.takeFrame n) hd)
        (firstFreeSlot_of_least (s := s.takeFrame n) hk hleast) hway haddress)))
  have hsegs : (u.createClaim d id n source k i a).segs = u.segs := by rw [createClaim_frame]
  refine ⟨fun hroom => ?_, fun hfull => ?_⟩
  · rw [replyOr_of_room hsegs (hasRoom_takeFrame.mpr hroom), createClaim_frame] at htaken
    exact ⟨_, htaken, rfl, recordBecomes_of_book (u := s) rfl rfl⟩
  · have hfull := mt hasRoom_takeFrame.mp hfull
    rw [htaken, replyOr_of_full hsegs hfull hfull]

end Sys2Proof.Machine
end

section
/-! PROOF. ANNOUNCE for an ID that a record holds (R97 to R101): O36 and O37. -/

namespace Sys2Proof.Machine

/-! ### What a record becomes in another place -/

theorem changed_of_segment_ne {old new : Record} (h : old.segment ≠ new.segment) :
    old.changed new = { new with generation := nextGeneration old.generation } := by
  rw [Record.changed, if_neg]
  simp [Record.sameTracked, h]

theorem changed_segment (r : Record) (n : SegNo) : r.changed { r with segment := some n } = { r with
    segment := some n
    generation := if r.segment = some n then r.generation else nextGeneration r.generation } := by
  by_cases h : r.segment = some n
  · rw [if_pos h, changed_of_same (by simp [Record.sameTracked, h])]
  · rw [if_neg h, changed_of_segment_ne h]

theorem changed_notify (r : Record) (why : Reason) :
    r.changed (r.notify why) = { r with attention := r.attention ||| BitVec.twoPow 8 why.bit } :=
  changed_of_same (by simp [Record.sameTracked, Record.notify])

/-- A DORMANT record whose module is received becomes ACTIVE on the segment of arrival. -/
theorem changed_received {r : Record} {n : SegNo} {lease : Byte} (hst : r.state ≠ .active) (hlease : r.lease = some lease) :
    r.changed { r.refresh.notify .returned with segment := some n } = { r with
      state := .active, segment := some n, ticks := lease, attention := r.attention ||| 0x02
      generation := nextGeneration r.generation } := by
  rw [changed_of_state_ne (show r.state ≠ _ from hst), Record.refresh, hlease]
  rfl

/-- A live record moves to the segment of arrival. -/
theorem changed_moved {r : Record} {n : SegNo} {lease : Byte} (hseg : r.segment ≠ some n) (hlease : r.lease = some lease) :
    r.changed { r.refresh.notify .moved with segment := some n } = { r with
      state := .active, segment := some n, ticks := lease, attention := r.attention ||| 0x04
      generation := nextGeneration r.generation } := by
  rw [changed_of_segment_ne (show r.segment ≠ _ from hseg), Record.refresh, hlease]
  rfl

theorem confirmation_of_address {r : Record} {a : Address} (h : r.address = some a) (id : ModuleId) :
    r.confirmation id = .confirm id a := by
  rw [Record.confirmation, h]
  rfl

/-! ### The cases of an ANNOUNCE for a known ID (R97) -/

section
variable {s : State} {n : SegNo} {source : Address} {id : ModuleId} {cls pref : Byte} {i : RecNo}
  (hm : s.engine.mode = .running) (hi : s.lookup id = some i)
include hm hi

theorem announceTaken_of_found : s.announceTaken n source id cls pref =
    if s.records[i].kind = .denied then s.announceDenied i n source id
    else if s.records[i].state = .pending then s.announcePending i n source id
    else if s.records[i].state = .dormant then s.receiveStatic i n source id
    else if s.records[i].segment = some n then s.announceReturn i n source id
    else s.announceMove i n source id := by
  rw [announceTaken_of_running hm, State.announceRunning, hi]

theorem announceTaken_of_pending (hkind : s.records[i].kind ≠ .denied) (hst : s.records[i].state = .pending) :
    s.announceTaken n source id cls pref = s.announcePending i n source id := by
  rw [announceTaken_of_found hm hi, if_neg hkind, if_pos hst]

theorem announceTaken_of_denied (hkind : s.records[i].kind = .denied) :
    s.announceTaken n source id cls pref = s.announceDenied i n source id := by
  rw [announceTaken_of_found hm hi, if_pos hkind]

theorem announceTaken_of_dormant (hkind : s.records[i].kind ≠ .denied) (hst : s.records[i].state = .dormant) :
    s.announceTaken n source id cls pref = s.receiveStatic i n source id := by
  rw [announceTaken_of_found hm hi, if_neg hkind, if_neg (by rw [hst]; nofun), if_pos hst]

theorem announceTaken_of_live (hkind : s.records[i].kind ≠ .denied)
    (hst : s.records[i].state = .active ∨ s.records[i].state = .stale) : s.announceTaken n source id cls pref =
      if s.records[i].segment = some n then s.announceReturn i n source id else s.announceMove i n source id := by
  have hne {st : RecState} (hactive : st ≠ .active) (hstale : st ≠ .stale) : s.records[i].state ≠ st := by
    rintro rfl
    exact hst.elim hactive hstale
  rw [announceTaken_of_found hm hi, if_neg hkind, if_neg (hne (st := .pending) nofun nofun),
    if_neg (hne (st := .dormant) nofun nofun)]

end

/-- Settles O37: each case changes its record and answers, or does nothing but set OVERFLOW. -/
theorem announceFromKnownModule : Obligations.AnnounceFromKnownModule := by
  intro s n source id cls pref i a lease h hm hi r u answers live
  have htaken {t : State} (hrun : (s.takeFrame n).announceTaken n source id cls pref = t) : exec (.announce n) s = .next t :=
    (announce_of_takes h).trans (congrArg _ hrun)
  refine ⟨fun hkind => ?_, fun hkind hst ha hlease => ?_, fun ⟨hkind, hst⟩ hseg ha hlease => ?_,
    fun ⟨hkind, hst⟩ hseg ha hlease hmoves => ?_, fun ⟨hkind, hst⟩ hseg hmoves => ?_⟩
  · exact changed_and_answered (htaken (announceTaken_of_denied (s := s.takeFrame n) hm hi hkind))
      (changed_notify r .deniedSeen)
  · have hrun := htaken (announceTaken_of_dormant (s := s.takeFrame n) hm hi
      (show r.kind ≠ .denied by rw [hkind]; nofun) hst)
    rw [State.receiveStatic, confirmation_of_address (r := (s.takeFrame n).records[i]) ha] at hrun
    exact changed_and_answered hrun (changed_received (by rw [hst]; nofun) hlease)
  all_goals have hrun := htaken (announceTaken_of_live (s := s.takeFrame n) hm hi hkind hst)
  · rw [if_pos (show (s.takeFrame n).records[i].segment = some n from hseg), State.announceReturn, confirmation_of_address (r := (s.takeFrame n).records[i]) ha] at hrun
    exact changed_and_answered hrun (changed_refresh hlease)
  all_goals rw [if_neg (show ¬(s.takeFrame n).records[i].segment = some n from hseg), State.announceMove] at hrun
  · rw [if_pos (show (s.takeFrame n).policy[n].acceptMoves = true from hmoves), confirmation_of_address (r := (s.takeFrame n).records[i]) ha] at hrun
    exact changed_and_answered hrun (changed_moved hseg hlease)
  · rw [if_neg (show ¬(s.takeFrame n).policy[n].acceptMoves = true from Bool.eq_false_iff.mp hmoves)] at hrun
    exact changed_and_answered hrun changed_charge

/-! ### A repeat announce (R101) -/

theorem hasRoom_removeOffers {s : State} {n : SegNo} (nonce : BitVec 16) (h : s.hasRoom n) : (s.removeOffers nonce).hasRoom n := by
  obtain ⟨hstate, hlen⟩ := h
  rw [State.hasRoom, removeOffers_getElem, dropOffers_eq, if_pos hstate]
  exact ⟨hstate, Nat.lt_of_le_of_lt (List.length_filter_le _ _) hlen⟩

theorem announcePending_of_claim {s : State} {i : RecNo} {k : SlotNo} {c : Claim} (hslot : s.records[i].slot = some k)
    (hk : s.slots[k] = some c) (n : SegNo) (source : Address) (id : ModuleId) : s.announcePending i n source id =
      if c.repeats < 3 then (s.repeatOffer k c n source).replyOr s n source (.offer c.id c.nonce c.address)
      else (s.withdraw k).replyOr s n source (.refuse id .offerLimit 0) := by
  rw [State.announcePending, hslot]
  simp only [hk]
  rfl

theorem withdraw_segs {s : State} {k : SlotNo} {c : Claim} (h : s.slots[k] = some c) :
    (s.withdraw k).segs = (s.removeOffers c.nonce).segs := by
  rw [withdraw_eq h]
  rfl

/-- An answer that finds room after an operation is placed there. -/
theorem replyOr_eq_place {done orig : State} {n : SegNo} (h : done.hasRoom n) (dest : Address) (m : Message) :
    done.replyOr orig n dest m = done.place n dest m := replyOr_of_room rfl h dest m

theorem hasRoom_congr {s t : State} (h : s.segs = t.segs) {n : SegNo} : s.hasRoom n ↔ t.hasRoom n := by
  rw [State.hasRoom, State.hasRoom, h]

/-- Settles O36: the OFFER again, the end of the claim, or nothing but OVERFLOW. -/
theorem repeatAnnounceOffersAgain : Obligations.RepeatAnnounceOffersAgain := by
  rintro s n source id cls pref i k c h hm hi hkind hst hslot hk rfl rfl u v offer limit
  have htaken := (announce_of_takes h).trans (congrArg _ (announceTaken_of_pending (s := s.takeFrame n) hm hi
    (show s.records[c.record].kind ≠ .denied by rw [hkind]; nofun) hst))
  rw [announcePending_of_claim (s := s.takeFrame n) hslot hk] at htaken
  have horig (hfull : ¬v.hasRoom n) : ¬u.hasRoom n := mt (hasRoom_removeOffers c.nonce) hfull
  refine ⟨fun hrepeats => ?_, fun hrepeats => ?_⟩
  · rw [if_pos hrepeats] at htaken
    refine ⟨fun hroom => ?_, fun hfull => ?_⟩
    · rw [replyOr_of_room (done := u.repeatOffer k c n source) (v := v) rfl hroom] at htaken
      exact ⟨_, htaken, rfl, changeRecord_becomes (changed_segment _ n) rfl⟩
    · rw [htaken, replyOr_of_full (done := u.repeatOffer k c n source) (v := v) rfl hfull (horig hfull)]
  · rw [if_neg (Nat.not_lt.mpr hrepeats)] at htaken
    have hsegs : (u.withdraw k).segs = v.segs := withdraw_segs (s := u) hk
    refine ⟨fun hroom => ?_, fun hfull => ?_⟩
    · rw [htaken, replyOr_eq_place ((hasRoom_congr hsegs).mpr hroom)]
    · rw [htaken, replyOr_of_full hsegs hfull (horig hfull)]

end Sys2Proof.Machine
end

section
/-! PROOF. ACCEPT and DECLINE (R104 to R108): O38 and O39. -/

namespace Sys2Proof.Machine

/-! ### ACCEPT (R104 to R106) -/

theorem accept_of_takes {s : State} {n : SegNo} {source : Address} {id : ModuleId} {nonce : BitVec 16} {a : Address}
    (h : s.segTakes n source (.accept id nonce a)) :
    exec (.accept n) s = .next ((s.takeFrame n).acceptTaken n source id nonce a) :=
  congrArg Host.Outcome.next (onFrame_of_takes h rfl)

section
variable {s : State} {n : SegNo} {source : Address} {id : ModuleId} {nonce : BitVec 16} {a : Address}

theorem acceptTaken_of_halted (h : s.engine.mode = .halted) :
    s.acceptTaken n source id nonce a = s.place n source (.refuse id .halted s.config.retryHint) := by
  rw [State.acceptTaken, h]

theorem acceptTaken_of_flushing (h : s.engine.mode = .flushing) :
    s.acceptTaken n source id nonce a = s.place n source (.refuse id .busy s.config.retryHint) := by
  rw [State.acceptTaken, h]

theorem acceptTaken_of_running (h : s.engine.mode = .running) :
    s.acceptTaken n source id nonce a = s.acceptRunning n source id nonce a := by
  rw [State.acceptTaken, h]

theorem offer_fits_iff {c : Claim} :
    (c.id == id && c.nonce == nonce && c.address == a) = true ↔ c.id = id ∧ c.nonce = nonce ∧ c.address = a := by
  rw [Bool.and_eq_true, Bool.and_eq_true, beq_iff_eq, beq_iff_eq, beq_iff_eq, and_assoc]

theorem acceptRunning_of_matched {k : SlotNo} {c : Claim} (hk : s.slots[k] = some c)
    (hfits : c.id = id ∧ c.nonce = nonce ∧ c.address = a)
    (hleast : ∀ j : SlotNo, j < k → ∀ e, s.slots[j] = some e → ¬(e.id = id ∧ e.nonce = nonce ∧ e.address = a)) :
    s.acceptRunning n source id nonce a = (s.commit k c n).replyOr s n source (.confirm id a) := by
  rw [State.acceptRunning, findClaim_of_least hk (offer_fits_iff.mpr hfits) fun j hj e he =>
    Bool.eq_false_iff.mpr (mt offer_fits_iff.mp (hleast j hj e he))]

theorem acceptRunning_of_unmatched
    (hnone : ∀ (k : SlotNo) (c : Claim), s.slots[k] = some c → ¬(c.id = id ∧ c.nonce = nonce ∧ c.address = a)) :
    s.acceptRunning n source id nonce a = s.acceptUnmatched n source id a := by
  rw [State.acceptRunning, findClaim_of_none fun k c hk => Bool.eq_false_iff.mpr (mt offer_fits_iff.mp (hnone k c hk))]

theorem acceptUnmatched_of_unknown (h : s.lookup id = none) :
    s.acceptUnmatched n source id a = s.place n source (.refuse id .staleOffer 0) := by
  rw [State.acceptUnmatched, h]

theorem acceptUnmatched_of_found {i : RecNo} (h : s.lookup id = some i) : s.acceptUnmatched n source id a =
    if s.records[i].live = true ∧ s.records[i].address = some a then s.place n source (.confirm id a)
    else if s.records[i].kind = .static ∧ s.records[i].state = .dormant ∧ s.records[i].address = some a then
      s.receiveStatic i n source id
    else s.place n source (.refuse id .staleOffer 0) := by
  rw [State.acceptUnmatched, h]

end

/-- The record of a claim that commits. -/
theorem changed_committed {r : Record} {n : SegNo} {groups : GroupSet} {lease : Byte} (hst : r.state = .pending)
    (hlease : r.lease = some lease) :
    r.changed { r.refresh.notify .learned with kind := .dynamic, segment := some n, groups := groups, slot := none } = { r with
      kind := .dynamic, state := .active, segment := some n, groups := groups, ticks := lease, slot := none
      attention := r.attention ||| 0x01, generation := nextGeneration r.generation } := by
  rw [changed_of_pending hst (show RecState.active ≠ .pending from nofun), Record.refresh, hlease]
  rfl

theorem commit_frame {s : State} {k : SlotNo} {c : Claim} {n : SegNo} {r : Record}
    (hr : s.records[c.record].changed { s.records[c.record].refresh.notify .learned with
      kind := .dynamic, segment := some n, groups := c.groups, slot := none } = r) :
    s.commit k c n = { s with
      engine := { s.engine with attnCount := (s.setRecord c.record r).engine.attnCount }
      records := (s.setRecord c.record r).records, groups := (s.setRecord c.record r).groups
      slots := s.slots.set k none, due := s.due.filter (· != k)
      segs := (s.removeOffers c.nonce).segs, pool := s.pool.take c.address (.bound c.record) } := by
  subst hr
  rfl

/-- Settles O38: the mode, the slot that the frame fits, and otherwise the record of its ID. -/
theorem acceptCommits : Obligations.AcceptCommits := by
  intro s n source id nonce a h u answered fits
  have htaken {t : State} (hrun : (s.takeFrame n).acceptTaken n source id nonce a = t) : exec (.accept n) s = .next t :=
    (accept_of_takes h).trans (congrArg _ hrun)
  refine ⟨fun hm => htaken (acceptTaken_of_halted (s := s.takeFrame n) hm),
    fun hm => htaken (acceptTaken_of_flushing (s := s.takeFrame n) hm),
    fun hm => ⟨fun k c lease hk hfits hleast hst hlease => ?_, fun hnone => ?_⟩⟩
  · have hrun := htaken ((acceptTaken_of_running (s := s.takeFrame n) hm).trans
      (acceptRunning_of_matched (s := s.takeFrame n) hk hfits hleast))
    obtain ⟨rfl, rfl, rfl⟩ := hfits
    intro r v
    have hcommit := commit_frame (s := u) (k := k) (c := c) (changed_committed (n := n) (groups := c.groups) hst hlease)
    have hsegs : (u.commit k c n).segs = v.segs := by rw [hcommit]
    refine ⟨fun hroom => ?_, fun hfull => ?_⟩
    · rw [replyOr_of_room hsegs hroom, hcommit] at hrun
      exact ⟨_, hrun, rfl, recordBecomes_of_book (u := s) rfl rfl⟩
    · exact hrun.trans (congrArg _ (replyOr_of_full hsegs hfull (mt (hasRoom_removeOffers c.nonce) hfull) source _))
  have hunmatched {t : State} (hrun : (s.takeFrame n).acceptUnmatched n source id a = t) : exec (.accept n) s = .next t :=
    htaken ((acceptTaken_of_running (s := s.takeFrame n) hm).trans
      ((acceptRunning_of_unmatched (s := s.takeFrame n) hnone).trans hrun))
  refine ⟨fun hid => hunmatched (acceptUnmatched_of_unknown (s := s.takeFrame n) hid), fun i hi => ?_⟩
  intro r live barred
  have hfound := hunmatched (acceptUnmatched_of_found (s := s.takeFrame n) (a := a) (source := source) (n := n) hi)
  have hlive : (s.takeFrame n).records[i].live = true ↔ live := live_iff (r := r)
  refine ⟨fun hl ha => ?_, fun lease hbarred ha hlease => ?_, fun hl hbarred => ?_, fun ha => ?_⟩
  · rw [if_pos ⟨hlive.mpr hl, ha⟩] at hfound
    exact hfound
  · obtain ⟨hkind, hst⟩ := hbarred
    have hl : ¬live := fun hl => by rcases hl with hl | hl <;> exact absurd (hst.symm.trans hl) nofun
    rw [if_neg (fun hx => hl (hlive.mp hx.1)), if_pos ⟨hkind, hst, ha⟩, State.receiveStatic,
      confirmation_of_address (r := (s.takeFrame n).records[i]) ha] at hfound
    exact changed_and_answered hfound (changed_received (by rw [hst]; nofun) hlease)
  · rw [if_neg (fun hx => hl (hlive.mp hx.1)), if_neg (fun hx => hbarred ⟨hx.1, hx.2.1⟩)] at hfound
    exact hfound
  · rw [if_neg (fun hx => ha hx.2), if_neg (fun hx => ha hx.2.2)] at hfound
    exact hfound

/-! ### DECLINE (R107, R108) -/

theorem decline_of_takes {s : State} {n : SegNo} {source : Address} {id : ModuleId} {nonce : BitVec 16}
    (h : s.segTakes n source (.decline id nonce)) :
    exec (.decline n) s = .next ((s.takeFrame n).declineTaken n source id nonce) :=
  congrArg Host.Outcome.next (onFrame_of_takes h rfl)

theorem allocateAgain_ne {p : Pool} {low high declined b : Address} (h : p.allocateAgain low high declined = some b) :
    b ≠ declined := by
  rw [Pool.allocateAgain, Pool.allocateFromLists, Option.or_eq_some_iff, Option.map_eq_some_iff] at h
  rcases h with h | ⟨_, e, he, rfl⟩
  · rintro rfl
    simpa using List.find?_some h
  · rintro rfl
    simpa using List.find?_some he

section
variable {s : State} {n : SegNo} {source : Address} {id : ModuleId} {nonce : BitVec 16}

theorem claim_fits_iff {c : Claim} : (c.id == id && c.nonce == nonce) = true ↔ c.id = id ∧ c.nonce = nonce := by
  rw [Bool.and_eq_true, beq_iff_eq, beq_iff_eq]

theorem declineTaken_of_stopped (h : s.engine.mode ≠ .running) : s.declineTaken n source id nonce = s := by
  unfold State.declineTaken
  split
  · rfl
  · rfl
  · next hm => exact absurd hm h

theorem declineTaken_of_unmatched (hnone : ∀ (k : SlotNo) (c : Claim), s.slots[k] = some c → ¬(c.id = id ∧ c.nonce = nonce)) :
    s.declineTaken n source id nonce = s := by
  by_cases hm : s.engine.mode = .running
  · rw [State.declineTaken, hm]
    simp only
    rw [findClaim_of_none fun k c hk => Bool.eq_false_iff.mpr (mt claim_fits_iff.mp (hnone k c hk))]
  · exact declineTaken_of_stopped hm

theorem declineTaken_of_matched (hm : s.engine.mode = .running) {k : SlotNo} {c : Claim} (hk : s.slots[k] = some c)
    (hfits : c.id = id ∧ c.nonce = nonce)
    (hleast : ∀ j : SlotNo, j < k → ∀ e, s.slots[j] = some e → ¬(e.id = id ∧ e.nonce = nonce)) :
    s.declineTaken n source id nonce = s.declineMatched n source id k c := by
  rw [State.declineTaken, hm]
  simp only
  rw [findClaim_of_least hk (claim_fits_iff.mpr hfits) fun j hj e he =>
    Bool.eq_false_iff.mpr (mt claim_fits_iff.mp (hleast j hj e he))]

variable {k : SlotNo} {c : Claim}

theorem declineMatched_of_some {b : Address} (h : (s.holdDeclined c).reofferAddress c = some b) :
    s.declineMatched n source id k c =
      ((s.holdDeclined c).reoffer k c b n source).replyOr s n source (.offer c.id s.engine.nonce b) := by
  rw [State.declineMatched]
  simp only [h]

theorem declineMatched_of_none (h : (s.holdDeclined c).reofferAddress c = none) : s.declineMatched n source id k c =
    ((s.holdDeclined c).endDeclined k c).replyOr s n source (.refuse id .noAddress 0) := by
  rw [State.declineMatched]
  simp only [h]

/-- A re-offer with the declined address in the pool as given. -/
theorem reoffer_frame (p : Pool) {b : Address} {r : Record}
    (hr : s.records[c.record].changed { s.records[c.record] with address := some b, segment := some n } = r) :
    (s.withPool p).reoffer k c b n source = { s with
      engine := { s.engine with
        nonce := if s.engine.nonce = 0xFFFF then 1 else s.engine.nonce + 1
        attnCount := (s.setRecord c.record r).engine.attnCount }
      records := (s.setRecord c.record r).records, groups := (s.setRecord c.record r).groups
      slots := s.slots.set k (some { c with
        phase := .sending, address := b, nonce := s.engine.nonce, declines := c.declines + 1
        segment := n, replyTo := source, window := s.config.offerWindow.toNat * 10 })
      due := s.due.filter (· != k)
      segs := (s.removeOffers c.nonce).segs, pool := p.take b (.offered c.record) } := by
  subst hr
  rfl

/-- The end of a claim with the declined address in the pool as given. -/
theorem endDeclined_frame (p : Pool) : (s.withPool p).endDeclined k c = { s with
    engine := { s.engine with attnCount := (s.setRecord c.record Record.empty).engine.attnCount }
    records := (s.setRecord c.record Record.empty).records, groups := (s.setRecord c.record Record.empty).groups
    slots := s.slots.set k none, due := s.due.filter (· != k)
    segs := (s.removeOffers c.nonce).segs, pool := p } := rfl

end

/-- The record of a claim that is offered another address. -/
theorem changed_reoffered {r : Record} {n : SegNo} {b : Address} (h : r.address ≠ some b) :
    r.changed { r with address := some b, segment := some n } = { r with
      address := some b, segment := some n, generation := nextGeneration r.generation } := by
  rw [Record.changed, if_neg]
  simp [Record.sameTracked, h]

/-- Settles O39: the frame discarded, the address offered next, or the end of the claim. -/
theorem declineOffersAgain : Obligations.DeclineOffersAgain := by
  intro s n source id nonce h u fits
  have htaken {t : State} (hrun : (s.takeFrame n).declineTaken n source id nonce = t) : exec (.decline n) s = .next t :=
    (decline_of_takes h).trans (congrArg _ hrun)
  refine ⟨fun hm => htaken (declineTaken_of_stopped (s := s.takeFrame n) hm),
    fun hnone => htaken (declineTaken_of_unmatched (s := s.takeFrame n) hnone),
    fun k c hm hk hfits hleast hst haddress => ?_⟩
  have hrun := htaken (declineTaken_of_matched (s := s.takeFrame n) hm hk hfits hleast)
  obtain ⟨rfl, rfl⟩ := hfits
  intro r v held next
  have hnext : (u.holdDeclined c).reofferAddress c = next := rfl
  have hheld : u.holdDeclined c = u.withPool held := rfl
  have horig (hfull : ¬v.hasRoom n) : ¬u.hasRoom n := mt (hasRoom_removeOffers c.nonce) hfull
  refine ⟨fun b hb => ?_, fun hno => ?_⟩
  · have hother : r.address ≠ some b := by
      rw [haddress]
      rintro ⟨⟩
      by_cases hdeclines : c.declines < 2
      · exact allocateAgain_ne ((if_pos hdeclines).symm.trans hb) rfl
      · exact absurd ((if_neg hdeclines).symm.trans hb) nofun
    rw [declineMatched_of_some (s := s.takeFrame n) (hnext.trans hb), hheld] at hrun
    have hreoffer := reoffer_frame (s := u) (n := n) (source := source) (k := k) (c := c) held
      (changed_reoffered (n := n) hother)
    have hsegs : ((u.withPool held).reoffer k c b n source).segs = v.segs := by rw [hreoffer]
    refine ⟨fun hroom => ?_, fun hfull => ?_⟩
    · rw [replyOr_of_room hsegs hroom, hreoffer] at hrun
      exact ⟨_, hrun, rfl, recordBecomes_of_book (u := s) rfl rfl⟩
    · exact hrun.trans (congrArg _ (replyOr_of_full hsegs hfull (horig hfull) source _))
  · rw [declineMatched_of_none (s := s.takeFrame n) (hnext.trans hno), hheld] at hrun
    have hended := endDeclined_frame (s := u) (k := k) (c := c) held
    have hsegs : ((u.withPool held).endDeclined k c).segs = v.segs := by rw [hended]
    refine ⟨fun hroom => ?_, fun hfull => ?_⟩
    · rw [replyOr_of_room hsegs hroom, hended] at hrun
      exact ⟨_, hrun, rfl, recordBecomes_of_book (u := s) rfl rfl⟩
    · exact hrun.trans (congrArg _ (replyOr_of_full hsegs hfull (horig hfull) source _))

end Sys2Proof.Machine
end
